-- ==== Sys2Proof/Word.lean ====
section
/-! DEFINITION. The two word sizes of the block (00_scope.md R6, R10): an 8-bit byte, which is a register or one
memory cell, and a 16-bit word, which is an address or a register pair. Everything that cuts fields out of words
or joins them stands in Sys2Proof/Machine/Bits.lean. -/

namespace Sys2Proof

/-- An 8-bit byte (R6: A to L are 8 bits; R80: one byte per address). -/
abbrev Byte := BitVec 8

/-- A 16-bit word: PC, SP, a register pair, an address (R6, R80). -/
abbrev Word := BitVec 16

/-- A 32-bit RGBA8888 pixel (00_scope.md R8, 65_ppu.md R487). -/
abbrev Pixel := BitVec 32

end Sys2Proof
end

