-- ==== Sys2Proof/Syntax.lean ====
section
/-! DEFINITION. The syntax of the instruction set: one constructor for every row of spec/opcode_table.json
(30_encoding.md R151, R152, R155, R162), and the names of the operand fields (R143). -/

namespace Sys2Proof

/-! ## Operand fields (R143) -/

/-- `r8[v]` less the memory form `(HL)`: the seven 8-bit registers an instruction can name. -/
inductive Reg where
  | b | c | d | e | h | l | a
deriving DecidableEq, Repr

/-- `r16[v]`. -/
inductive Pair where
  | bc | de | hl | sp
deriving DecidableEq, Repr

/-- `r16stk[v]`. -/
inductive StkPair where
  | bc | de | hl | af
deriving DecidableEq, Repr

/-- `cc[v]`. -/
inductive Cond where
  | nz | z | nc | c
deriving DecidableEq, Repr

/-- `alu[v]`. -/
inductive AluOp where
  | add | adc | sub | sbc | and | xor | or | cp
deriving DecidableEq, Repr

/-- `rot[v]`. -/
inductive RotOp where
  | rlc | rrc | rl | rr | sla | sra | swap | srl
deriving DecidableEq, Repr

/-- A number 0 to 7 held in a field: the bit index of `BIT`, `RES`, `SET`, and `y` of `RST`. -/
inductive Ix where
  | i0 | i1 | i2 | i3 | i4 | i5 | i6 | i7
deriving DecidableEq, Repr

/-- The number a field holds. -/
def Ix.toNat : Ix → Nat
  | .i0 => 0 | .i1 => 1 | .i2 => 2 | .i3 => 3 | .i4 => 4 | .i5 => 5 | .i6 => 6 | .i7 => 7

/-! ## Instructions -/

/-- One constructor for every row of the opcode table: the forms with bytes after the opcode first, then the others,
both in the table's order. `n`, `e`, `nn` are the immediates of R144; `op2` is the byte after the prefix. -/
inductive Instr where
  /-- 01 `LD BC,nn` (R200) -/
  | ldBCnn (nn : Word)
  /-- 06 `LD B,n` (R172) -/
  | ldBn (n : Byte)
  /-- 08 `LD (nn),SP` (R201) -/
  | ldMemNnSP (nn : Word)
  /-- 0E `LD C,n` (R172) -/
  | ldCn (n : Byte)
  /-- 11 `LD DE,nn` (R200) -/
  | ldDEnn (nn : Word)
  /-- 16 `LD D,n` (R172) -/
  | ldDn (n : Byte)
  /-- 18 `JR e` (R304) -/
  | jre (e : Byte)
  /-- 1E `LD E,n` (R172) -/
  | ldEn (n : Byte)
  /-- 20 `JR NZ,e` (R305) -/
  | jrNZe (e : Byte)
  /-- 21 `LD HL,nn` (R200) -/
  | ldHLnn (nn : Word)
  /-- 26 `LD H,n` (R172) -/
  | ldHn (n : Byte)
  /-- 28 `JR Z,e` (R305) -/
  | jrZe (e : Byte)
  /-- 2E `LD L,n` (R172) -/
  | ldLn (n : Byte)
  /-- 30 `JR NC,e` (R305) -/
  | jrNCe (e : Byte)
  /-- 31 `LD SP,nn` (R200) -/
  | ldSPnn (nn : Word)
  /-- 36 `LD (HL),n` (R175) -/
  | ldMemHLn (n : Byte)
  /-- 38 `JR C,e` (R305) -/
  | jrCe (e : Byte)
  /-- 3E `LD A,n` (R172) -/
  | ldAn (n : Byte)
  /-- C2 `JP NZ,nn` (R302) -/
  | jpNZnn (nn : Word)
  /-- C3 `JP nn` (R301) -/
  | jpnn (nn : Word)
  /-- C4 `CALL NZ,nn` (R307) -/
  | callNZnn (nn : Word)
  /-- C6 `ADD A,n` (R213) -/
  | addAn (n : Byte)
  /-- CA `JP Z,nn` (R302) -/
  | jpZnn (nn : Word)
  /-- CB `PREFIX CB` (R325) -/
  | prefixCB (op2 : Byte)
  /-- CC `CALL Z,nn` (R307) -/
  | callZnn (nn : Word)
  /-- CD `CALL nn` (R306) -/
  | callnn (nn : Word)
  /-- CE `ADC A,n` (R216) -/
  | adcAn (n : Byte)
  /-- D2 `JP NC,nn` (R302) -/
  | jpNCnn (nn : Word)
  /-- D4 `CALL NC,nn` (R307) -/
  | callNCnn (nn : Word)
  /-- D6 `SUB n` (R219) -/
  | subn (n : Byte)
  /-- DA `JP C,nn` (R302) -/
  | jpCnn (nn : Word)
  /-- DC `CALL C,nn` (R307) -/
  | callCnn (nn : Word)
  /-- DE `SBC A,n` (R222) -/
  | sbcAn (n : Byte)
  /-- E0 `LDH (n),A` (R181) -/
  | ldhMemNA (n : Byte)
  /-- E6 `AND n` (R225) -/
  | andn (n : Byte)
  /-- E8 `ADD SP,e` (R253) -/
  | addSPe (e : Byte)
  /-- EA `LD (nn),A` (R189) -/
  | ldMemNnA (nn : Word)
  /-- EE `XOR n` (R228) -/
  | xorn (n : Byte)
  /-- F0 `LDH A,(n)` (R182) -/
  | ldhAMemN (n : Byte)
  /-- F6 `OR n` (R231) -/
  | orn (n : Byte)
  /-- F8 `LD HL,SP+e` (R205) -/
  | ldHLSPe (e : Byte)
  /-- FA `LD A,(nn)` (R180) -/
  | ldAMemNn (nn : Word)
  /-- FE `CP n` (R234) -/
  | cpn (n : Byte)
  /-- 00 `NOP` (R320) -/
  | nop
  /-- 02 `LD (BC),A` (R178) -/
  | ldMemBCA
  /-- 03 `INC BC` (R251) -/
  | incBC
  /-- 04 `INC B` (R235) -/
  | incB
  /-- 05 `DEC B` (R237) -/
  | decB
  /-- 07 `RLCA` (R261) -/
  | rlca
  /-- 09 `ADD HL,BC` (R250) -/
  | addHLBC
  /-- 0A `LD A,(BC)` (R176) -/
  | ldAMemBC
  /-- 0B `DEC BC` (R252) -/
  | decBC
  /-- 0C `INC C` (R235) -/
  | incC
  /-- 0D `DEC C` (R237) -/
  | decC
  /-- 0F `RRCA` (R262) -/
  | rrca
  /-- 10 `STOP` (R322) -/
  | stop
  /-- 12 `LD (DE),A` (R179) -/
  | ldMemDEA
  /-- 13 `INC DE` (R251) -/
  | incDE
  /-- 14 `INC D` (R235) -/
  | incD
  /-- 15 `DEC D` (R237) -/
  | decD
  /-- 17 `RLA` (R263) -/
  | rla
  /-- 19 `ADD HL,DE` (R250) -/
  | addHLDE
  /-- 1A `LD A,(DE)` (R177) -/
  | ldAMemDE
  /-- 1B `DEC DE` (R252) -/
  | decDE
  /-- 1C `INC E` (R235) -/
  | incE
  /-- 1D `DEC E` (R237) -/
  | decE
  /-- 1F `RRA` (R264) -/
  | rra
  /-- 22 `LD (HL+),A` (R185) -/
  | ldMemHLIncA
  /-- 23 `INC HL` (R251) -/
  | incHL
  /-- 24 `INC H` (R235) -/
  | incH
  /-- 25 `DEC H` (R237) -/
  | decH
  /-- 27 `DAA` (R239) -/
  | daa
  /-- 29 `ADD HL,HL` (R250) -/
  | addHLHL
  /-- 2A `LD A,(HL+)` (R187) -/
  | ldAMemHLInc
  /-- 2B `DEC HL` (R252) -/
  | decHL
  /-- 2C `INC L` (R235) -/
  | incL
  /-- 2D `DEC L` (R237) -/
  | decL
  /-- 2F `CPL` (R240) -/
  | cpl
  /-- 32 `LD (HL-),A` (R186) -/
  | ldMemHLDecA
  /-- 33 `INC SP` (R251) -/
  | incSP
  /-- 34 `INC (HL)` (R236) -/
  | incMemHL
  /-- 35 `DEC (HL)` (R238) -/
  | decMemHL
  /-- 37 `SCF` (R241) -/
  | scf
  /-- 39 `ADD HL,SP` (R250) -/
  | addHLSP
  /-- 3A `LD A,(HL-)` (R188) -/
  | ldAMemHLDec
  /-- 3B `DEC SP` (R252) -/
  | decSP
  /-- 3C `INC A` (R235) -/
  | incA
  /-- 3D `DEC A` (R237) -/
  | decA
  /-- 3F `CCF` (R242) -/
  | ccf
  /-- 40 `LD B,B` (R171) -/
  | ldBB
  /-- 41 `LD B,C` (R171) -/
  | ldBC
  /-- 42 `LD B,D` (R171) -/
  | ldBD
  /-- 43 `LD B,E` (R171) -/
  | ldBE
  /-- 44 `LD B,H` (R171) -/
  | ldBH
  /-- 45 `LD B,L` (R171) -/
  | ldBL
  /-- 46 `LD B,(HL)` (R173) -/
  | ldBMemHL
  /-- 47 `LD B,A` (R171) -/
  | ldBA
  /-- 48 `LD C,B` (R171) -/
  | ldCB
  /-- 49 `LD C,C` (R171) -/
  | ldCC
  /-- 4A `LD C,D` (R171) -/
  | ldCD
  /-- 4B `LD C,E` (R171) -/
  | ldCE
  /-- 4C `LD C,H` (R171) -/
  | ldCH
  /-- 4D `LD C,L` (R171) -/
  | ldCL
  /-- 4E `LD C,(HL)` (R173) -/
  | ldCMemHL
  /-- 4F `LD C,A` (R171) -/
  | ldCA
  /-- 50 `LD D,B` (R171) -/
  | ldDB
  /-- 51 `LD D,C` (R171) -/
  | ldDC
  /-- 52 `LD D,D` (R171) -/
  | ldDD
  /-- 53 `LD D,E` (R171) -/
  | ldDE
  /-- 54 `LD D,H` (R171) -/
  | ldDH
  /-- 55 `LD D,L` (R171) -/
  | ldDL
  /-- 56 `LD D,(HL)` (R173) -/
  | ldDMemHL
  /-- 57 `LD D,A` (R171) -/
  | ldDA
  /-- 58 `LD E,B` (R171) -/
  | ldEB
  /-- 59 `LD E,C` (R171) -/
  | ldEC
  /-- 5A `LD E,D` (R171) -/
  | ldED
  /-- 5B `LD E,E` (R171) -/
  | ldEE
  /-- 5C `LD E,H` (R171) -/
  | ldEH
  /-- 5D `LD E,L` (R171) -/
  | ldEL
  /-- 5E `LD E,(HL)` (R173) -/
  | ldEMemHL
  /-- 5F `LD E,A` (R171) -/
  | ldEA
  /-- 60 `LD H,B` (R171) -/
  | ldHB
  /-- 61 `LD H,C` (R171) -/
  | ldHC
  /-- 62 `LD H,D` (R171) -/
  | ldHD
  /-- 63 `LD H,E` (R171) -/
  | ldHE
  /-- 64 `LD H,H` (R171) -/
  | ldHH
  /-- 65 `LD H,L` (R171) -/
  | ldHL
  /-- 66 `LD H,(HL)` (R173) -/
  | ldHMemHL
  /-- 67 `LD H,A` (R171) -/
  | ldHA
  /-- 68 `LD L,B` (R171) -/
  | ldLB
  /-- 69 `LD L,C` (R171) -/
  | ldLC
  /-- 6A `LD L,D` (R171) -/
  | ldLD
  /-- 6B `LD L,E` (R171) -/
  | ldLE
  /-- 6C `LD L,H` (R171) -/
  | ldLH
  /-- 6D `LD L,L` (R171) -/
  | ldLL
  /-- 6E `LD L,(HL)` (R173) -/
  | ldLMemHL
  /-- 6F `LD L,A` (R171) -/
  | ldLA
  /-- 70 `LD (HL),B` (R174) -/
  | ldMemHLB
  /-- 71 `LD (HL),C` (R174) -/
  | ldMemHLC
  /-- 72 `LD (HL),D` (R174) -/
  | ldMemHLD
  /-- 73 `LD (HL),E` (R174) -/
  | ldMemHLE
  /-- 74 `LD (HL),H` (R174) -/
  | ldMemHLH
  /-- 75 `LD (HL),L` (R174) -/
  | ldMemHLL
  /-- 76 `HALT` (R321) -/
  | halt
  /-- 77 `LD (HL),A` (R174) -/
  | ldMemHLA
  /-- 78 `LD A,B` (R171) -/
  | ldAB
  /-- 79 `LD A,C` (R171) -/
  | ldAC
  /-- 7A `LD A,D` (R171) -/
  | ldAD
  /-- 7B `LD A,E` (R171) -/
  | ldAE
  /-- 7C `LD A,H` (R171) -/
  | ldAH
  /-- 7D `LD A,L` (R171) -/
  | ldAL
  /-- 7E `LD A,(HL)` (R173) -/
  | ldAMemHL
  /-- 7F `LD A,A` (R171) -/
  | ldAA
  /-- 80 `ADD A,B` (R211) -/
  | addAB
  /-- 81 `ADD A,C` (R211) -/
  | addAC
  /-- 82 `ADD A,D` (R211) -/
  | addAD
  /-- 83 `ADD A,E` (R211) -/
  | addAE
  /-- 84 `ADD A,H` (R211) -/
  | addAH
  /-- 85 `ADD A,L` (R211) -/
  | addAL
  /-- 86 `ADD A,(HL)` (R212) -/
  | addAMemHL
  /-- 87 `ADD A,A` (R211) -/
  | addAA
  /-- 88 `ADC A,B` (R214) -/
  | adcAB
  /-- 89 `ADC A,C` (R214) -/
  | adcAC
  /-- 8A `ADC A,D` (R214) -/
  | adcAD
  /-- 8B `ADC A,E` (R214) -/
  | adcAE
  /-- 8C `ADC A,H` (R214) -/
  | adcAH
  /-- 8D `ADC A,L` (R214) -/
  | adcAL
  /-- 8E `ADC A,(HL)` (R215) -/
  | adcAMemHL
  /-- 8F `ADC A,A` (R214) -/
  | adcAA
  /-- 90 `SUB B` (R217) -/
  | subB
  /-- 91 `SUB C` (R217) -/
  | subC
  /-- 92 `SUB D` (R217) -/
  | subD
  /-- 93 `SUB E` (R217) -/
  | subE
  /-- 94 `SUB H` (R217) -/
  | subH
  /-- 95 `SUB L` (R217) -/
  | subL
  /-- 96 `SUB (HL)` (R218) -/
  | subMemHL
  /-- 97 `SUB A` (R217) -/
  | subA
  /-- 98 `SBC A,B` (R220) -/
  | sbcAB
  /-- 99 `SBC A,C` (R220) -/
  | sbcAC
  /-- 9A `SBC A,D` (R220) -/
  | sbcAD
  /-- 9B `SBC A,E` (R220) -/
  | sbcAE
  /-- 9C `SBC A,H` (R220) -/
  | sbcAH
  /-- 9D `SBC A,L` (R220) -/
  | sbcAL
  /-- 9E `SBC A,(HL)` (R221) -/
  | sbcAMemHL
  /-- 9F `SBC A,A` (R220) -/
  | sbcAA
  /-- A0 `AND B` (R223) -/
  | andB
  /-- A1 `AND C` (R223) -/
  | andC
  /-- A2 `AND D` (R223) -/
  | andD
  /-- A3 `AND E` (R223) -/
  | andE
  /-- A4 `AND H` (R223) -/
  | andH
  /-- A5 `AND L` (R223) -/
  | andL
  /-- A6 `AND (HL)` (R224) -/
  | andMemHL
  /-- A7 `AND A` (R223) -/
  | andA
  /-- A8 `XOR B` (R226) -/
  | xorB
  /-- A9 `XOR C` (R226) -/
  | xorC
  /-- AA `XOR D` (R226) -/
  | xorD
  /-- AB `XOR E` (R226) -/
  | xorE
  /-- AC `XOR H` (R226) -/
  | xorH
  /-- AD `XOR L` (R226) -/
  | xorL
  /-- AE `XOR (HL)` (R227) -/
  | xorMemHL
  /-- AF `XOR A` (R226) -/
  | xorA
  /-- B0 `OR B` (R229) -/
  | orB
  /-- B1 `OR C` (R229) -/
  | orC
  /-- B2 `OR D` (R229) -/
  | orD
  /-- B3 `OR E` (R229) -/
  | orE
  /-- B4 `OR H` (R229) -/
  | orH
  /-- B5 `OR L` (R229) -/
  | orL
  /-- B6 `OR (HL)` (R230) -/
  | orMemHL
  /-- B7 `OR A` (R229) -/
  | orA
  /-- B8 `CP B` (R232) -/
  | cpB
  /-- B9 `CP C` (R232) -/
  | cpC
  /-- BA `CP D` (R232) -/
  | cpD
  /-- BB `CP E` (R232) -/
  | cpE
  /-- BC `CP H` (R232) -/
  | cpH
  /-- BD `CP L` (R232) -/
  | cpL
  /-- BE `CP (HL)` (R233) -/
  | cpMemHL
  /-- BF `CP A` (R232) -/
  | cpA
  /-- C0 `RET NZ` (R309) -/
  | retNZ
  /-- C1 `POP BC` (R204) -/
  | popBC
  /-- C5 `PUSH BC` (R203) -/
  | pushBC
  /-- C7 `RST 0x00` (R310) -/
  | rst00
  /-- C8 `RET Z` (R309) -/
  | retZ
  /-- C9 `RET` (R308) -/
  | ret
  /-- CF `RST 0x08` (R310) -/
  | rst08
  /-- D0 `RET NC` (R309) -/
  | retNC
  /-- D1 `POP DE` (R204) -/
  | popDE
  /-- D3 `ILLEGAL_D3` (R326) -/
  | illegalD3
  /-- D5 `PUSH DE` (R203) -/
  | pushDE
  /-- D7 `RST 0x10` (R310) -/
  | rst10
  /-- D8 `RET C` (R309) -/
  | retC
  /-- D9 `RETI` (R311) -/
  | reti
  /-- DB `ILLEGAL_DB` (R326) -/
  | illegalDB
  /-- DD `ILLEGAL_DD` (R326) -/
  | illegalDD
  /-- DF `RST 0x18` (R310) -/
  | rst18
  /-- E1 `POP HL` (R204) -/
  | popHL
  /-- E2 `LDH (C),A` (R183) -/
  | ldhMemCA
  /-- E3 `ILLEGAL_E3` (R326) -/
  | illegalE3
  /-- E4 `ILLEGAL_E4` (R326) -/
  | illegalE4
  /-- E5 `PUSH HL` (R203) -/
  | pushHL
  /-- E7 `RST 0x20` (R310) -/
  | rst20
  /-- E9 `JP HL` (R303) -/
  | jpHL
  /-- EB `ILLEGAL_EB` (R326) -/
  | illegalEB
  /-- EC `ILLEGAL_EC` (R326) -/
  | illegalEC
  /-- ED `ILLEGAL_ED` (R326) -/
  | illegalED
  /-- EF `RST 0x28` (R310) -/
  | rst28
  /-- F1 `POP AF` (R204) -/
  | popAF
  /-- F2 `LDH A,(C)` (R184) -/
  | ldhAMemC
  /-- F3 `DI` (R323) -/
  | di
  /-- F4 `ILLEGAL_F4` (R326) -/
  | illegalF4
  /-- F5 `PUSH AF` (R203) -/
  | pushAF
  /-- F7 `RST 0x30` (R310) -/
  | rst30
  /-- F9 `LD SP,HL` (R202) -/
  | ldSPHL
  /-- FB `EI` (R324) -/
  | ei
  /-- FC `ILLEGAL_FC` (R326) -/
  | illegalFC
  /-- FD `ILLEGAL_FD` (R326) -/
  | illegalFD
  /-- FF `RST 0x38` (R310) -/
  | rst38
  /-- CB 00 `RLC B` (R265) -/
  | rlcB
  /-- CB 01 `RLC C` (R265) -/
  | rlcC
  /-- CB 02 `RLC D` (R265) -/
  | rlcD
  /-- CB 03 `RLC E` (R265) -/
  | rlcE
  /-- CB 04 `RLC H` (R265) -/
  | rlcH
  /-- CB 05 `RLC L` (R265) -/
  | rlcL
  /-- CB 06 `RLC (HL)` (R266) -/
  | rlcMemHL
  /-- CB 07 `RLC A` (R265) -/
  | rlcA
  /-- CB 08 `RRC B` (R267) -/
  | rrcB
  /-- CB 09 `RRC C` (R267) -/
  | rrcC
  /-- CB 0A `RRC D` (R267) -/
  | rrcD
  /-- CB 0B `RRC E` (R267) -/
  | rrcE
  /-- CB 0C `RRC H` (R267) -/
  | rrcH
  /-- CB 0D `RRC L` (R267) -/
  | rrcL
  /-- CB 0E `RRC (HL)` (R268) -/
  | rrcMemHL
  /-- CB 0F `RRC A` (R267) -/
  | rrcA
  /-- CB 10 `RL B` (R269) -/
  | rlB
  /-- CB 11 `RL C` (R269) -/
  | rlC
  /-- CB 12 `RL D` (R269) -/
  | rlD
  /-- CB 13 `RL E` (R269) -/
  | rlE
  /-- CB 14 `RL H` (R269) -/
  | rlH
  /-- CB 15 `RL L` (R269) -/
  | rlL
  /-- CB 16 `RL (HL)` (R270) -/
  | rlMemHL
  /-- CB 17 `RL A` (R269) -/
  | rlA
  /-- CB 18 `RR B` (R271) -/
  | rrB
  /-- CB 19 `RR C` (R271) -/
  | rrC
  /-- CB 1A `RR D` (R271) -/
  | rrD
  /-- CB 1B `RR E` (R271) -/
  | rrE
  /-- CB 1C `RR H` (R271) -/
  | rrH
  /-- CB 1D `RR L` (R271) -/
  | rrL
  /-- CB 1E `RR (HL)` (R272) -/
  | rrMemHL
  /-- CB 1F `RR A` (R271) -/
  | rrA
  /-- CB 20 `SLA B` (R273) -/
  | slaB
  /-- CB 21 `SLA C` (R273) -/
  | slaC
  /-- CB 22 `SLA D` (R273) -/
  | slaD
  /-- CB 23 `SLA E` (R273) -/
  | slaE
  /-- CB 24 `SLA H` (R273) -/
  | slaH
  /-- CB 25 `SLA L` (R273) -/
  | slaL
  /-- CB 26 `SLA (HL)` (R274) -/
  | slaMemHL
  /-- CB 27 `SLA A` (R273) -/
  | slaA
  /-- CB 28 `SRA B` (R275) -/
  | sraB
  /-- CB 29 `SRA C` (R275) -/
  | sraC
  /-- CB 2A `SRA D` (R275) -/
  | sraD
  /-- CB 2B `SRA E` (R275) -/
  | sraE
  /-- CB 2C `SRA H` (R275) -/
  | sraH
  /-- CB 2D `SRA L` (R275) -/
  | sraL
  /-- CB 2E `SRA (HL)` (R276) -/
  | sraMemHL
  /-- CB 2F `SRA A` (R275) -/
  | sraA
  /-- CB 30 `SWAP B` (R277) -/
  | swapB
  /-- CB 31 `SWAP C` (R277) -/
  | swapC
  /-- CB 32 `SWAP D` (R277) -/
  | swapD
  /-- CB 33 `SWAP E` (R277) -/
  | swapE
  /-- CB 34 `SWAP H` (R277) -/
  | swapH
  /-- CB 35 `SWAP L` (R277) -/
  | swapL
  /-- CB 36 `SWAP (HL)` (R278) -/
  | swapMemHL
  /-- CB 37 `SWAP A` (R277) -/
  | swapA
  /-- CB 38 `SRL B` (R279) -/
  | srlB
  /-- CB 39 `SRL C` (R279) -/
  | srlC
  /-- CB 3A `SRL D` (R279) -/
  | srlD
  /-- CB 3B `SRL E` (R279) -/
  | srlE
  /-- CB 3C `SRL H` (R279) -/
  | srlH
  /-- CB 3D `SRL L` (R279) -/
  | srlL
  /-- CB 3E `SRL (HL)` (R280) -/
  | srlMemHL
  /-- CB 3F `SRL A` (R279) -/
  | srlA
  /-- CB 40 `BIT 0,B` (R281) -/
  | bit0B
  /-- CB 41 `BIT 0,C` (R281) -/
  | bit0C
  /-- CB 42 `BIT 0,D` (R281) -/
  | bit0D
  /-- CB 43 `BIT 0,E` (R281) -/
  | bit0E
  /-- CB 44 `BIT 0,H` (R281) -/
  | bit0H
  /-- CB 45 `BIT 0,L` (R281) -/
  | bit0L
  /-- CB 46 `BIT 0,(HL)` (R282) -/
  | bit0MemHL
  /-- CB 47 `BIT 0,A` (R281) -/
  | bit0A
  /-- CB 48 `BIT 1,B` (R281) -/
  | bit1B
  /-- CB 49 `BIT 1,C` (R281) -/
  | bit1C
  /-- CB 4A `BIT 1,D` (R281) -/
  | bit1D
  /-- CB 4B `BIT 1,E` (R281) -/
  | bit1E
  /-- CB 4C `BIT 1,H` (R281) -/
  | bit1H
  /-- CB 4D `BIT 1,L` (R281) -/
  | bit1L
  /-- CB 4E `BIT 1,(HL)` (R282) -/
  | bit1MemHL
  /-- CB 4F `BIT 1,A` (R281) -/
  | bit1A
  /-- CB 50 `BIT 2,B` (R281) -/
  | bit2B
  /-- CB 51 `BIT 2,C` (R281) -/
  | bit2C
  /-- CB 52 `BIT 2,D` (R281) -/
  | bit2D
  /-- CB 53 `BIT 2,E` (R281) -/
  | bit2E
  /-- CB 54 `BIT 2,H` (R281) -/
  | bit2H
  /-- CB 55 `BIT 2,L` (R281) -/
  | bit2L
  /-- CB 56 `BIT 2,(HL)` (R282) -/
  | bit2MemHL
  /-- CB 57 `BIT 2,A` (R281) -/
  | bit2A
  /-- CB 58 `BIT 3,B` (R281) -/
  | bit3B
  /-- CB 59 `BIT 3,C` (R281) -/
  | bit3C
  /-- CB 5A `BIT 3,D` (R281) -/
  | bit3D
  /-- CB 5B `BIT 3,E` (R281) -/
  | bit3E
  /-- CB 5C `BIT 3,H` (R281) -/
  | bit3H
  /-- CB 5D `BIT 3,L` (R281) -/
  | bit3L
  /-- CB 5E `BIT 3,(HL)` (R282) -/
  | bit3MemHL
  /-- CB 5F `BIT 3,A` (R281) -/
  | bit3A
  /-- CB 60 `BIT 4,B` (R281) -/
  | bit4B
  /-- CB 61 `BIT 4,C` (R281) -/
  | bit4C
  /-- CB 62 `BIT 4,D` (R281) -/
  | bit4D
  /-- CB 63 `BIT 4,E` (R281) -/
  | bit4E
  /-- CB 64 `BIT 4,H` (R281) -/
  | bit4H
  /-- CB 65 `BIT 4,L` (R281) -/
  | bit4L
  /-- CB 66 `BIT 4,(HL)` (R282) -/
  | bit4MemHL
  /-- CB 67 `BIT 4,A` (R281) -/
  | bit4A
  /-- CB 68 `BIT 5,B` (R281) -/
  | bit5B
  /-- CB 69 `BIT 5,C` (R281) -/
  | bit5C
  /-- CB 6A `BIT 5,D` (R281) -/
  | bit5D
  /-- CB 6B `BIT 5,E` (R281) -/
  | bit5E
  /-- CB 6C `BIT 5,H` (R281) -/
  | bit5H
  /-- CB 6D `BIT 5,L` (R281) -/
  | bit5L
  /-- CB 6E `BIT 5,(HL)` (R282) -/
  | bit5MemHL
  /-- CB 6F `BIT 5,A` (R281) -/
  | bit5A
  /-- CB 70 `BIT 6,B` (R281) -/
  | bit6B
  /-- CB 71 `BIT 6,C` (R281) -/
  | bit6C
  /-- CB 72 `BIT 6,D` (R281) -/
  | bit6D
  /-- CB 73 `BIT 6,E` (R281) -/
  | bit6E
  /-- CB 74 `BIT 6,H` (R281) -/
  | bit6H
  /-- CB 75 `BIT 6,L` (R281) -/
  | bit6L
  /-- CB 76 `BIT 6,(HL)` (R282) -/
  | bit6MemHL
  /-- CB 77 `BIT 6,A` (R281) -/
  | bit6A
  /-- CB 78 `BIT 7,B` (R281) -/
  | bit7B
  /-- CB 79 `BIT 7,C` (R281) -/
  | bit7C
  /-- CB 7A `BIT 7,D` (R281) -/
  | bit7D
  /-- CB 7B `BIT 7,E` (R281) -/
  | bit7E
  /-- CB 7C `BIT 7,H` (R281) -/
  | bit7H
  /-- CB 7D `BIT 7,L` (R281) -/
  | bit7L
  /-- CB 7E `BIT 7,(HL)` (R282) -/
  | bit7MemHL
  /-- CB 7F `BIT 7,A` (R281) -/
  | bit7A
  /-- CB 80 `RES 0,B` (R283) -/
  | res0B
  /-- CB 81 `RES 0,C` (R283) -/
  | res0C
  /-- CB 82 `RES 0,D` (R283) -/
  | res0D
  /-- CB 83 `RES 0,E` (R283) -/
  | res0E
  /-- CB 84 `RES 0,H` (R283) -/
  | res0H
  /-- CB 85 `RES 0,L` (R283) -/
  | res0L
  /-- CB 86 `RES 0,(HL)` (R284) -/
  | res0MemHL
  /-- CB 87 `RES 0,A` (R283) -/
  | res0A
  /-- CB 88 `RES 1,B` (R283) -/
  | res1B
  /-- CB 89 `RES 1,C` (R283) -/
  | res1C
  /-- CB 8A `RES 1,D` (R283) -/
  | res1D
  /-- CB 8B `RES 1,E` (R283) -/
  | res1E
  /-- CB 8C `RES 1,H` (R283) -/
  | res1H
  /-- CB 8D `RES 1,L` (R283) -/
  | res1L
  /-- CB 8E `RES 1,(HL)` (R284) -/
  | res1MemHL
  /-- CB 8F `RES 1,A` (R283) -/
  | res1A
  /-- CB 90 `RES 2,B` (R283) -/
  | res2B
  /-- CB 91 `RES 2,C` (R283) -/
  | res2C
  /-- CB 92 `RES 2,D` (R283) -/
  | res2D
  /-- CB 93 `RES 2,E` (R283) -/
  | res2E
  /-- CB 94 `RES 2,H` (R283) -/
  | res2H
  /-- CB 95 `RES 2,L` (R283) -/
  | res2L
  /-- CB 96 `RES 2,(HL)` (R284) -/
  | res2MemHL
  /-- CB 97 `RES 2,A` (R283) -/
  | res2A
  /-- CB 98 `RES 3,B` (R283) -/
  | res3B
  /-- CB 99 `RES 3,C` (R283) -/
  | res3C
  /-- CB 9A `RES 3,D` (R283) -/
  | res3D
  /-- CB 9B `RES 3,E` (R283) -/
  | res3E
  /-- CB 9C `RES 3,H` (R283) -/
  | res3H
  /-- CB 9D `RES 3,L` (R283) -/
  | res3L
  /-- CB 9E `RES 3,(HL)` (R284) -/
  | res3MemHL
  /-- CB 9F `RES 3,A` (R283) -/
  | res3A
  /-- CB A0 `RES 4,B` (R283) -/
  | res4B
  /-- CB A1 `RES 4,C` (R283) -/
  | res4C
  /-- CB A2 `RES 4,D` (R283) -/
  | res4D
  /-- CB A3 `RES 4,E` (R283) -/
  | res4E
  /-- CB A4 `RES 4,H` (R283) -/
  | res4H
  /-- CB A5 `RES 4,L` (R283) -/
  | res4L
  /-- CB A6 `RES 4,(HL)` (R284) -/
  | res4MemHL
  /-- CB A7 `RES 4,A` (R283) -/
  | res4A
  /-- CB A8 `RES 5,B` (R283) -/
  | res5B
  /-- CB A9 `RES 5,C` (R283) -/
  | res5C
  /-- CB AA `RES 5,D` (R283) -/
  | res5D
  /-- CB AB `RES 5,E` (R283) -/
  | res5E
  /-- CB AC `RES 5,H` (R283) -/
  | res5H
  /-- CB AD `RES 5,L` (R283) -/
  | res5L
  /-- CB AE `RES 5,(HL)` (R284) -/
  | res5MemHL
  /-- CB AF `RES 5,A` (R283) -/
  | res5A
  /-- CB B0 `RES 6,B` (R283) -/
  | res6B
  /-- CB B1 `RES 6,C` (R283) -/
  | res6C
  /-- CB B2 `RES 6,D` (R283) -/
  | res6D
  /-- CB B3 `RES 6,E` (R283) -/
  | res6E
  /-- CB B4 `RES 6,H` (R283) -/
  | res6H
  /-- CB B5 `RES 6,L` (R283) -/
  | res6L
  /-- CB B6 `RES 6,(HL)` (R284) -/
  | res6MemHL
  /-- CB B7 `RES 6,A` (R283) -/
  | res6A
  /-- CB B8 `RES 7,B` (R283) -/
  | res7B
  /-- CB B9 `RES 7,C` (R283) -/
  | res7C
  /-- CB BA `RES 7,D` (R283) -/
  | res7D
  /-- CB BB `RES 7,E` (R283) -/
  | res7E
  /-- CB BC `RES 7,H` (R283) -/
  | res7H
  /-- CB BD `RES 7,L` (R283) -/
  | res7L
  /-- CB BE `RES 7,(HL)` (R284) -/
  | res7MemHL
  /-- CB BF `RES 7,A` (R283) -/
  | res7A
  /-- CB C0 `SET 0,B` (R285) -/
  | set0B
  /-- CB C1 `SET 0,C` (R285) -/
  | set0C
  /-- CB C2 `SET 0,D` (R285) -/
  | set0D
  /-- CB C3 `SET 0,E` (R285) -/
  | set0E
  /-- CB C4 `SET 0,H` (R285) -/
  | set0H
  /-- CB C5 `SET 0,L` (R285) -/
  | set0L
  /-- CB C6 `SET 0,(HL)` (R286) -/
  | set0MemHL
  /-- CB C7 `SET 0,A` (R285) -/
  | set0A
  /-- CB C8 `SET 1,B` (R285) -/
  | set1B
  /-- CB C9 `SET 1,C` (R285) -/
  | set1C
  /-- CB CA `SET 1,D` (R285) -/
  | set1D
  /-- CB CB `SET 1,E` (R285) -/
  | set1E
  /-- CB CC `SET 1,H` (R285) -/
  | set1H
  /-- CB CD `SET 1,L` (R285) -/
  | set1L
  /-- CB CE `SET 1,(HL)` (R286) -/
  | set1MemHL
  /-- CB CF `SET 1,A` (R285) -/
  | set1A
  /-- CB D0 `SET 2,B` (R285) -/
  | set2B
  /-- CB D1 `SET 2,C` (R285) -/
  | set2C
  /-- CB D2 `SET 2,D` (R285) -/
  | set2D
  /-- CB D3 `SET 2,E` (R285) -/
  | set2E
  /-- CB D4 `SET 2,H` (R285) -/
  | set2H
  /-- CB D5 `SET 2,L` (R285) -/
  | set2L
  /-- CB D6 `SET 2,(HL)` (R286) -/
  | set2MemHL
  /-- CB D7 `SET 2,A` (R285) -/
  | set2A
  /-- CB D8 `SET 3,B` (R285) -/
  | set3B
  /-- CB D9 `SET 3,C` (R285) -/
  | set3C
  /-- CB DA `SET 3,D` (R285) -/
  | set3D
  /-- CB DB `SET 3,E` (R285) -/
  | set3E
  /-- CB DC `SET 3,H` (R285) -/
  | set3H
  /-- CB DD `SET 3,L` (R285) -/
  | set3L
  /-- CB DE `SET 3,(HL)` (R286) -/
  | set3MemHL
  /-- CB DF `SET 3,A` (R285) -/
  | set3A
  /-- CB E0 `SET 4,B` (R285) -/
  | set4B
  /-- CB E1 `SET 4,C` (R285) -/
  | set4C
  /-- CB E2 `SET 4,D` (R285) -/
  | set4D
  /-- CB E3 `SET 4,E` (R285) -/
  | set4E
  /-- CB E4 `SET 4,H` (R285) -/
  | set4H
  /-- CB E5 `SET 4,L` (R285) -/
  | set4L
  /-- CB E6 `SET 4,(HL)` (R286) -/
  | set4MemHL
  /-- CB E7 `SET 4,A` (R285) -/
  | set4A
  /-- CB E8 `SET 5,B` (R285) -/
  | set5B
  /-- CB E9 `SET 5,C` (R285) -/
  | set5C
  /-- CB EA `SET 5,D` (R285) -/
  | set5D
  /-- CB EB `SET 5,E` (R285) -/
  | set5E
  /-- CB EC `SET 5,H` (R285) -/
  | set5H
  /-- CB ED `SET 5,L` (R285) -/
  | set5L
  /-- CB EE `SET 5,(HL)` (R286) -/
  | set5MemHL
  /-- CB EF `SET 5,A` (R285) -/
  | set5A
  /-- CB F0 `SET 6,B` (R285) -/
  | set6B
  /-- CB F1 `SET 6,C` (R285) -/
  | set6C
  /-- CB F2 `SET 6,D` (R285) -/
  | set6D
  /-- CB F3 `SET 6,E` (R285) -/
  | set6E
  /-- CB F4 `SET 6,H` (R285) -/
  | set6H
  /-- CB F5 `SET 6,L` (R285) -/
  | set6L
  /-- CB F6 `SET 6,(HL)` (R286) -/
  | set6MemHL
  /-- CB F7 `SET 6,A` (R285) -/
  | set6A
  /-- CB F8 `SET 7,B` (R285) -/
  | set7B
  /-- CB F9 `SET 7,C` (R285) -/
  | set7C
  /-- CB FA `SET 7,D` (R285) -/
  | set7D
  /-- CB FB `SET 7,E` (R285) -/
  | set7E
  /-- CB FC `SET 7,H` (R285) -/
  | set7H
  /-- CB FD `SET 7,L` (R285) -/
  | set7L
  /-- CB FE `SET 7,(HL)` (R286) -/
  | set7MemHL
  /-- CB FF `SET 7,A` (R285) -/
  | set7A
deriving DecidableEq, Repr

end Sys2Proof
end

