-- ==== Sys2Proof/Machine/Families.lean ====
section
/-! DEFINITION. The instructions of one form by their operand fields (30_encoding.md R143, R150, R152): for each form,
the constructor that the fields name. Statements about a form quantify over its fields with these. -/

namespace Sys2Proof

/-! ## The numbers of the fields (R143) -/

/-- The number of a register in `r8`; 6 is `(HL)`. -/
def Reg.code : Reg → BitVec 3
  | .b => 0 | .c => 1 | .d => 2 | .e => 3 | .h => 4 | .l => 5 | .a => 7

/-- The number of `(HL)` in `r8`. -/
def memCode : BitVec 3 := 6

/-- The number of a pair in `r16`. -/
def Pair.code : Pair → BitVec 2
  | .bc => 0 | .de => 1 | .hl => 2 | .sp => 3

/-- The number of a pair in `r16stk`. -/
def StkPair.code : StkPair → BitVec 2
  | .bc => 0 | .de => 1 | .hl => 2 | .af => 3

/-- The number of a condition in `cc`. -/
def Cond.code : Cond → BitVec 2
  | .nz => 0 | .z => 1 | .nc => 2 | .c => 3

/-- The field `y` of a condition whose rule says `0yy`. -/
def Cond.y (cc : Cond) : BitVec 3 := (0 : BitVec 1) ++ cc.code

/-- The number of an operation in `alu`. -/
def AluOp.code : AluOp → BitVec 3
  | .add => 0 | .adc => 1 | .sub => 2 | .sbc => 3 | .and => 4 | .xor => 5 | .or => 6 | .cp => 7

/-- The number of an operation in `rot`. -/
def RotOp.code : RotOp → BitVec 3
  | .rlc => 0 | .rrc => 1 | .rl => 2 | .rr => 3 | .sla => 4 | .sra => 5 | .swap => 6 | .srl => 7

/-- A number held in a three-bit field. -/
def Ix.code (i : Ix) : BitVec 3 := BitVec.ofNat 3 i.toNat

/-! ## The instructions of a form -/

/-- `LD r,r'` (R171): `01 yyy zzz`. -/
def Instr.ldRegReg : Reg → Reg → Instr
  | .b, .b => .ldBB  | .b, .c => .ldBC  | .b, .d => .ldBD  | .b, .e => .ldBE  | .b, .h => .ldBH  | .b, .l => .ldBL
  | .b, .a => .ldBA  | .c, .b => .ldCB  | .c, .c => .ldCC  | .c, .d => .ldCD  | .c, .e => .ldCE  | .c, .h => .ldCH
  | .c, .l => .ldCL  | .c, .a => .ldCA  | .d, .b => .ldDB  | .d, .c => .ldDC  | .d, .d => .ldDD  | .d, .e => .ldDE
  | .d, .h => .ldDH  | .d, .l => .ldDL  | .d, .a => .ldDA  | .e, .b => .ldEB  | .e, .c => .ldEC  | .e, .d => .ldED
  | .e, .e => .ldEE  | .e, .h => .ldEH  | .e, .l => .ldEL  | .e, .a => .ldEA  | .h, .b => .ldHB  | .h, .c => .ldHC
  | .h, .d => .ldHD  | .h, .e => .ldHE  | .h, .h => .ldHH  | .h, .l => .ldHL  | .h, .a => .ldHA  | .l, .b => .ldLB
  | .l, .c => .ldLC  | .l, .d => .ldLD  | .l, .e => .ldLE  | .l, .h => .ldLH  | .l, .l => .ldLL  | .l, .a => .ldLA
  | .a, .b => .ldAB  | .a, .c => .ldAC  | .a, .d => .ldAD  | .a, .e => .ldAE  | .a, .h => .ldAH  | .a, .l => .ldAL
  | .a, .a => .ldAA

/-- `LD r,n` (R172): `00 yyy 110`. -/
def Instr.ldRegImm : Reg → Byte → Instr
  | .b, n => .ldBn n  | .c, n => .ldCn n  | .d, n => .ldDn n  | .e, n => .ldEn n  | .h, n => .ldHn n
  | .l, n => .ldLn n  | .a, n => .ldAn n

/-- `LD r,(HL)` (R173): `01 yyy 110`. -/
def Instr.ldRegMem : Reg → Instr
  | .b => .ldBMemHL  | .c => .ldCMemHL  | .d => .ldDMemHL  | .e => .ldEMemHL  | .h => .ldHMemHL  | .l => .ldLMemHL
  | .a => .ldAMemHL

/-- `LD (HL),r` (R174): `01 110 zzz`. -/
def Instr.ldMemReg : Reg → Instr
  | .b => .ldMemHLB  | .c => .ldMemHLC  | .d => .ldMemHLD  | .e => .ldMemHLE  | .h => .ldMemHLH  | .l => .ldMemHLL
  | .a => .ldMemHLA

/-- `LD rr,nn` (R200): `00 pp0 001`. -/
def Instr.ldPairImm : Pair → Word → Instr
  | .bc, nn => .ldBCnn nn  | .de, nn => .ldDEnn nn  | .hl, nn => .ldHLnn nn  | .sp, nn => .ldSPnn nn

/-- `PUSH rr` (R203): `11 pp0 101`. -/
def Instr.push : StkPair → Instr
  | .bc => .pushBC  | .de => .pushDE  | .hl => .pushHL  | .af => .pushAF

/-- `POP rr` (R204): `11 pp0 001`. -/
def Instr.pop : StkPair → Instr
  | .bc => .popBC  | .de => .popDE  | .hl => .popHL  | .af => .popAF

/-- `alu A,r` (R211 to R232): `10 ooo zzz`. -/
def Instr.aluReg : AluOp → Reg → Instr
  | .add, .b => .addAB  | .add, .c => .addAC  | .add, .d => .addAD  | .add, .e => .addAE  | .add, .h => .addAH
  | .add, .l => .addAL  | .add, .a => .addAA  | .adc, .b => .adcAB  | .adc, .c => .adcAC  | .adc, .d => .adcAD
  | .adc, .e => .adcAE  | .adc, .h => .adcAH  | .adc, .l => .adcAL  | .adc, .a => .adcAA  | .sub, .b => .subB
  | .sub, .c => .subC  | .sub, .d => .subD  | .sub, .e => .subE  | .sub, .h => .subH  | .sub, .l => .subL
  | .sub, .a => .subA  | .sbc, .b => .sbcAB  | .sbc, .c => .sbcAC  | .sbc, .d => .sbcAD  | .sbc, .e => .sbcAE
  | .sbc, .h => .sbcAH  | .sbc, .l => .sbcAL  | .sbc, .a => .sbcAA  | .and, .b => .andB  | .and, .c => .andC
  | .and, .d => .andD  | .and, .e => .andE  | .and, .h => .andH  | .and, .l => .andL  | .and, .a => .andA
  | .xor, .b => .xorB  | .xor, .c => .xorC  | .xor, .d => .xorD  | .xor, .e => .xorE  | .xor, .h => .xorH
  | .xor, .l => .xorL  | .xor, .a => .xorA  | .or, .b => .orB  | .or, .c => .orC  | .or, .d => .orD
  | .or, .e => .orE  | .or, .h => .orH  | .or, .l => .orL  | .or, .a => .orA  | .cp, .b => .cpB  | .cp, .c => .cpC
  | .cp, .d => .cpD  | .cp, .e => .cpE  | .cp, .h => .cpH  | .cp, .l => .cpL  | .cp, .a => .cpA

/-- `alu A,(HL)` (R212 to R233): `10 ooo 110`. -/
def Instr.aluMem : AluOp → Instr
  | .add => .addAMemHL  | .adc => .adcAMemHL  | .sub => .subMemHL  | .sbc => .sbcAMemHL  | .and => .andMemHL
  | .xor => .xorMemHL  | .or => .orMemHL  | .cp => .cpMemHL

/-- `alu A,n` (R213 to R234): `11 ooo 110`. -/
def Instr.aluImm : AluOp → Byte → Instr
  | .add, n => .addAn n  | .adc, n => .adcAn n  | .sub, n => .subn n  | .sbc, n => .sbcAn n  | .and, n => .andn n
  | .xor, n => .xorn n  | .or, n => .orn n  | .cp, n => .cpn n

/-- `INC r` (R235): `00 yyy 100`. -/
def Instr.incReg : Reg → Instr
  | .b => .incB  | .c => .incC  | .d => .incD  | .e => .incE  | .h => .incH  | .l => .incL  | .a => .incA

/-- `DEC r` (R237): `00 yyy 101`. -/
def Instr.decReg : Reg → Instr
  | .b => .decB  | .c => .decC  | .d => .decD  | .e => .decE  | .h => .decH  | .l => .decL  | .a => .decA

/-- `ADD HL,rr` (R250): `00 pp1 001`. -/
def Instr.addHlPair : Pair → Instr
  | .bc => .addHLBC  | .de => .addHLDE  | .hl => .addHLHL  | .sp => .addHLSP

/-- `INC rr` (R251): `00 pp0 011`. -/
def Instr.incPair : Pair → Instr
  | .bc => .incBC  | .de => .incDE  | .hl => .incHL  | .sp => .incSP

/-- `DEC rr` (R252): `00 pp1 011`. -/
def Instr.decPair : Pair → Instr
  | .bc => .decBC  | .de => .decDE  | .hl => .decHL  | .sp => .decSP

/-- `JR cc,e` (R305): `00 1yy 000`. -/
def Instr.jrIf : Cond → Byte → Instr
  | .nz, e => .jrNZe e  | .z, e => .jrZe e  | .nc, e => .jrNCe e  | .c, e => .jrCe e

/-- `JP cc,nn` (R302): `11 0yy 010`. -/
def Instr.jpIf : Cond → Word → Instr
  | .nz, nn => .jpNZnn nn  | .z, nn => .jpZnn nn  | .nc, nn => .jpNCnn nn  | .c, nn => .jpCnn nn

/-- `CALL cc,nn` (R307): `11 0yy 100`. -/
def Instr.callIf : Cond → Word → Instr
  | .nz, nn => .callNZnn nn  | .z, nn => .callZnn nn  | .nc, nn => .callNCnn nn  | .c, nn => .callCnn nn

/-- `RET cc` (R309): `11 0yy 000`. -/
def Instr.retIf : Cond → Instr
  | .nz => .retNZ  | .z => .retZ  | .nc => .retNC  | .c => .retC

/-- `RST 8·y` (R310): `11 yyy 111`. -/
def Instr.rst : Ix → Instr
  | .i0 => .rst00  | .i1 => .rst08  | .i2 => .rst10  | .i3 => .rst18  | .i4 => .rst20  | .i5 => .rst28
  | .i6 => .rst30  | .i7 => .rst38

/-- `rot r` (R265 to R279): `CB 00 ooo zzz`. -/
def Instr.rotReg : RotOp → Reg → Instr
  | .rlc, .b => .rlcB  | .rlc, .c => .rlcC  | .rlc, .d => .rlcD  | .rlc, .e => .rlcE  | .rlc, .h => .rlcH
  | .rlc, .l => .rlcL  | .rlc, .a => .rlcA  | .rrc, .b => .rrcB  | .rrc, .c => .rrcC  | .rrc, .d => .rrcD
  | .rrc, .e => .rrcE  | .rrc, .h => .rrcH  | .rrc, .l => .rrcL  | .rrc, .a => .rrcA  | .rl, .b => .rlB
  | .rl, .c => .rlC  | .rl, .d => .rlD  | .rl, .e => .rlE  | .rl, .h => .rlH  | .rl, .l => .rlL  | .rl, .a => .rlA
  | .rr, .b => .rrB  | .rr, .c => .rrC  | .rr, .d => .rrD  | .rr, .e => .rrE  | .rr, .h => .rrH  | .rr, .l => .rrL
  | .rr, .a => .rrA  | .sla, .b => .slaB  | .sla, .c => .slaC  | .sla, .d => .slaD  | .sla, .e => .slaE
  | .sla, .h => .slaH  | .sla, .l => .slaL  | .sla, .a => .slaA  | .sra, .b => .sraB  | .sra, .c => .sraC
  | .sra, .d => .sraD  | .sra, .e => .sraE  | .sra, .h => .sraH  | .sra, .l => .sraL  | .sra, .a => .sraA
  | .swap, .b => .swapB  | .swap, .c => .swapC  | .swap, .d => .swapD  | .swap, .e => .swapE  | .swap, .h => .swapH
  | .swap, .l => .swapL  | .swap, .a => .swapA  | .srl, .b => .srlB  | .srl, .c => .srlC  | .srl, .d => .srlD
  | .srl, .e => .srlE  | .srl, .h => .srlH  | .srl, .l => .srlL  | .srl, .a => .srlA

/-- `rot (HL)` (R266 to R280): `CB 00 ooo 110`. -/
def Instr.rotMem : RotOp → Instr
  | .rlc => .rlcMemHL  | .rrc => .rrcMemHL  | .rl => .rlMemHL  | .rr => .rrMemHL  | .sla => .slaMemHL
  | .sra => .sraMemHL  | .swap => .swapMemHL  | .srl => .srlMemHL

/-- `BIT b,r` (R281): `CB 01 bbb zzz`. -/
def Instr.bitReg : Ix → Reg → Instr
  | .i0, .b => .bit0B  | .i0, .c => .bit0C  | .i0, .d => .bit0D  | .i0, .e => .bit0E  | .i0, .h => .bit0H
  | .i0, .l => .bit0L  | .i0, .a => .bit0A  | .i1, .b => .bit1B  | .i1, .c => .bit1C  | .i1, .d => .bit1D
  | .i1, .e => .bit1E  | .i1, .h => .bit1H  | .i1, .l => .bit1L  | .i1, .a => .bit1A  | .i2, .b => .bit2B
  | .i2, .c => .bit2C  | .i2, .d => .bit2D  | .i2, .e => .bit2E  | .i2, .h => .bit2H  | .i2, .l => .bit2L
  | .i2, .a => .bit2A  | .i3, .b => .bit3B  | .i3, .c => .bit3C  | .i3, .d => .bit3D  | .i3, .e => .bit3E
  | .i3, .h => .bit3H  | .i3, .l => .bit3L  | .i3, .a => .bit3A  | .i4, .b => .bit4B  | .i4, .c => .bit4C
  | .i4, .d => .bit4D  | .i4, .e => .bit4E  | .i4, .h => .bit4H  | .i4, .l => .bit4L  | .i4, .a => .bit4A
  | .i5, .b => .bit5B  | .i5, .c => .bit5C  | .i5, .d => .bit5D  | .i5, .e => .bit5E  | .i5, .h => .bit5H
  | .i5, .l => .bit5L  | .i5, .a => .bit5A  | .i6, .b => .bit6B  | .i6, .c => .bit6C  | .i6, .d => .bit6D
  | .i6, .e => .bit6E  | .i6, .h => .bit6H  | .i6, .l => .bit6L  | .i6, .a => .bit6A  | .i7, .b => .bit7B
  | .i7, .c => .bit7C  | .i7, .d => .bit7D  | .i7, .e => .bit7E  | .i7, .h => .bit7H  | .i7, .l => .bit7L
  | .i7, .a => .bit7A

/-- `BIT b,(HL)` (R282): `CB 01 bbb 110`. -/
def Instr.bitMem : Ix → Instr
  | .i0 => .bit0MemHL  | .i1 => .bit1MemHL  | .i2 => .bit2MemHL  | .i3 => .bit3MemHL  | .i4 => .bit4MemHL
  | .i5 => .bit5MemHL  | .i6 => .bit6MemHL  | .i7 => .bit7MemHL

/-- `RES b,r` (R283): `CB 10 bbb zzz`. -/
def Instr.resReg : Ix → Reg → Instr
  | .i0, .b => .res0B  | .i0, .c => .res0C  | .i0, .d => .res0D  | .i0, .e => .res0E  | .i0, .h => .res0H
  | .i0, .l => .res0L  | .i0, .a => .res0A  | .i1, .b => .res1B  | .i1, .c => .res1C  | .i1, .d => .res1D
  | .i1, .e => .res1E  | .i1, .h => .res1H  | .i1, .l => .res1L  | .i1, .a => .res1A  | .i2, .b => .res2B
  | .i2, .c => .res2C  | .i2, .d => .res2D  | .i2, .e => .res2E  | .i2, .h => .res2H  | .i2, .l => .res2L
  | .i2, .a => .res2A  | .i3, .b => .res3B  | .i3, .c => .res3C  | .i3, .d => .res3D  | .i3, .e => .res3E
  | .i3, .h => .res3H  | .i3, .l => .res3L  | .i3, .a => .res3A  | .i4, .b => .res4B  | .i4, .c => .res4C
  | .i4, .d => .res4D  | .i4, .e => .res4E  | .i4, .h => .res4H  | .i4, .l => .res4L  | .i4, .a => .res4A
  | .i5, .b => .res5B  | .i5, .c => .res5C  | .i5, .d => .res5D  | .i5, .e => .res5E  | .i5, .h => .res5H
  | .i5, .l => .res5L  | .i5, .a => .res5A  | .i6, .b => .res6B  | .i6, .c => .res6C  | .i6, .d => .res6D
  | .i6, .e => .res6E  | .i6, .h => .res6H  | .i6, .l => .res6L  | .i6, .a => .res6A  | .i7, .b => .res7B
  | .i7, .c => .res7C  | .i7, .d => .res7D  | .i7, .e => .res7E  | .i7, .h => .res7H  | .i7, .l => .res7L
  | .i7, .a => .res7A

/-- `RES b,(HL)` (R284): `CB 10 bbb 110`. -/
def Instr.resMem : Ix → Instr
  | .i0 => .res0MemHL  | .i1 => .res1MemHL  | .i2 => .res2MemHL  | .i3 => .res3MemHL  | .i4 => .res4MemHL
  | .i5 => .res5MemHL  | .i6 => .res6MemHL  | .i7 => .res7MemHL

/-- `SET b,r` (R285): `CB 11 bbb zzz`. -/
def Instr.setReg : Ix → Reg → Instr
  | .i0, .b => .set0B  | .i0, .c => .set0C  | .i0, .d => .set0D  | .i0, .e => .set0E  | .i0, .h => .set0H
  | .i0, .l => .set0L  | .i0, .a => .set0A  | .i1, .b => .set1B  | .i1, .c => .set1C  | .i1, .d => .set1D
  | .i1, .e => .set1E  | .i1, .h => .set1H  | .i1, .l => .set1L  | .i1, .a => .set1A  | .i2, .b => .set2B
  | .i2, .c => .set2C  | .i2, .d => .set2D  | .i2, .e => .set2E  | .i2, .h => .set2H  | .i2, .l => .set2L
  | .i2, .a => .set2A  | .i3, .b => .set3B  | .i3, .c => .set3C  | .i3, .d => .set3D  | .i3, .e => .set3E
  | .i3, .h => .set3H  | .i3, .l => .set3L  | .i3, .a => .set3A  | .i4, .b => .set4B  | .i4, .c => .set4C
  | .i4, .d => .set4D  | .i4, .e => .set4E  | .i4, .h => .set4H  | .i4, .l => .set4L  | .i4, .a => .set4A
  | .i5, .b => .set5B  | .i5, .c => .set5C  | .i5, .d => .set5D  | .i5, .e => .set5E  | .i5, .h => .set5H
  | .i5, .l => .set5L  | .i5, .a => .set5A  | .i6, .b => .set6B  | .i6, .c => .set6C  | .i6, .d => .set6D
  | .i6, .e => .set6E  | .i6, .h => .set6H  | .i6, .l => .set6L  | .i6, .a => .set6A  | .i7, .b => .set7B
  | .i7, .c => .set7C  | .i7, .d => .set7D  | .i7, .e => .set7E  | .i7, .h => .set7H  | .i7, .l => .set7L
  | .i7, .a => .set7A

/-- `SET b,(HL)` (R286): `CB 11 bbb 110`. -/
def Instr.setMem : Ix → Instr
  | .i0 => .set0MemHL  | .i1 => .set1MemHL  | .i2 => .set2MemHL  | .i3 => .set3MemHL  | .i4 => .set4MemHL
  | .i5 => .set5MemHL  | .i6 => .set6MemHL  | .i7 => .set7MemHL

/-- The illegal bytes and the constructors of their rows (R155). -/
def illegalOpcodes : List (Byte × Instr) :=
  [(0xD3, .illegalD3), (0xDB, .illegalDB), (0xDD, .illegalDD), (0xE3, .illegalE3), (0xE4, .illegalE4), (0xEB, .illegalEB), 
   (0xEC, .illegalEC), (0xED, .illegalED), (0xF4, .illegalF4), (0xFC, .illegalFC), (0xFD, .illegalFD)]

end Sys2Proof
end

