-- ==== Sys2Proof/Machine/Bits.lean ====
section
/-! DEFINITION. Cutting fields out of bytes and words and joining them (00_scope.md R10). -/

namespace Sys2Proof

/-- `{hi, lo}`: the 16-bit value with `hi` in bits 15..8 (R10, R22). -/
def wordOf (hi lo : Byte) : Word := hi ++ lo

/-- `w[7:0]` (R10). -/
def loByte (w : Word) : Byte := w.setWidth 8

/-- `w[15:8]` (R10). -/
def hiByte (w : Word) : Byte := (w >>> 8).setWidth 8

/-- `sext_16(v)`: `v` read as two's complement, at 16 bits (R10). -/
def sext16 (v : Byte) : Word := v.signExtend 16

/-- `zext_16(v)` (R10). -/
def zext16 (v : Byte) : Word := v.setWidth 16

/-- A Bool as a one-bit field. -/
def bitOf (b : Bool) : BitVec 1 := BitVec.ofBool b

/-- The 5-bit number with only bit `i` set: one interrupt source (60_exceptions.md R341). -/
def irqBit (i : Nat) : BitVec 5 := BitVec.ofNat 5 (2 ^ i)

/-- The byte whose bits 7 to 0 are the arguments, first to last. -/
def byteOfBits (b7 b6 b5 b4 b3 b2 b1 b0 : Bool) : Byte :=
  bitOf b7 ++ bitOf b6 ++ bitOf b5 ++ bitOf b4 ++ bitOf b3 ++ bitOf b2 ++ bitOf b1 ++ bitOf b0

end Sys2Proof
end

