-- ==== Sys2Proof/Config.lean ====
section
/-! DEFINITION. What is fixed for one machine and what the spec leaves free.
`Model` and `Params` are the arguments of 00_scope.md R6 that are plain data: they stand in `State.params`, no step
changes them, and a statement about every state holds for every choice of them. The numbers are the fixed
parameters of R6. The opaque constants are the free values: nothing in Lean can evaluate them. -/

namespace Sys2Proof

/-- The device model (R6: "A top-level enum {Dmg, Cgb}"). -/
inductive Model where
  | dmg
  | cgb
deriving DecidableEq, Repr

/-- The two forms of reset, one of which `load` fixes (70_reset_and_hazards.md R580): a boot ROM is supplied, or none. -/
inductive ResetForm where
  | powerOn
  | postBoot
deriving DecidableEq, Repr

/-- One of the open parameters DMG_SHADES_* (R6, 92_eei_decisions.md D27): four RGBA8888 words. -/
structure Shades where
  s0 : Pixel
  s1 : Pixel
  s2 : Pixel
  s3 : Pixel
deriving DecidableEq, Repr

/-- The arguments of the model that are plain data (R6), with the form of reset that `load` fixed (R580). -/
structure Params where
  /-- `Model` -/
  model : Model
  /-- the form that `load` selected and `reset()` applies again (R580, R582) -/
  resetForm : ResetForm
  /-- `HALT_BUG`, default false (D5) -/
  haltBug : Bool
  /-- `STOP_SWALLOWS_OPERAND`, default false (D6) -/
  stopSwallowsOperand : Bool
  /-- `HDMA_RUNS_WHILE_HALTED`, default true (D16) -/
  hdmaRunsWhileHalted : Bool
  /-- `DMG_SHADES_BG` (D27, open) -/
  shadesBg : Shades
  /-- `DMG_SHADES_OBJ0` (D27, open) -/
  shadesObj0 : Shades
  /-- `DMG_SHADES_OBJ1` (D27, open) -/
  shadesObj1 : Shades
deriving DecidableEq, Repr

/-- `DOTS_PER_LINE` (R6, R480). -/
def Config.dotsPerLine : Nat := 456

/-- `LINES_PER_FRAME` (R6, R480). -/
def Config.linesPerFrame : Nat := 154

/-- `SPEED_SWITCH_MCYCLES` (R6, R322). -/
def Config.speedSwitchMcycles : Nat := 2050

/-- The M-cycle budget of `run_frame` at single speed (R596, R602). -/
def Config.frameMcycles : Nat := 17556

/-- `DOTS_PER_MCYCLE`: 4 at single speed, 2 at double speed (R6, R111). -/
def Config.dotsPerMcycle (doubleSpeed : Bool) : Nat := if doubleSpeed then 2 else 4

/-- `GDMA_MCYCLES_PER_BLOCK`: 8 at single speed, 16 at double speed (R6, R464). -/
def Config.gdmaMcyclesPerBlock (doubleSpeed : Bool) : Nat := if doubleSpeed then 16 else 8

/-- Bytes copied in one stall cycle: 16 / GDMA_MCYCLES_PER_BLOCK (R466). -/
def Config.gdmaBytesPerCycle (doubleSpeed : Bool) : Nat := if doubleSpeed then 1 else 2

/-- FREE VALUE. `FEA0_READ_CGB`: the byte a read of FEA0 to FEFF gives on `Cgb` (R91, D9: a draw per read). The
arguments are `mcycles` and the address, so reads in different M-cycles are unrelated. Log entry 3. -/
opaque Config.unusableRead : Nat → Word → Byte

/-- FREE VALUE. What the external unit `ExtIo` answers to a read (R93, D10: a byte, a draw per read). The arguments
are `mcycles` and the address. Log entry 4. -/
opaque Config.extIoRead : Nat → Word → Byte

/-- FREE VALUE. What a cartridge whose inside the model does not hold answers to a read (R86, U11). The arguments
are `mcycles` and the address. Log entry 5. -/
opaque Config.cartRead : Nat → Word → Byte

/-- FREE VALUE. `Rgb555ToRgba`: the pixel shown for a 15-bit colour-RAM entry (R6, R544, D27: open). Log entry 6. -/
opaque Config.rgb555ToRgba : BitVec 15 → Pixel

end Sys2Proof
end

