-- ==== Sys2Proof/Machine/State.lean ====
section
/-! DEFINITION. The state of the block as plain data (10_state.md R20 to R42), the reasons a step can stop, and the
state after reset (70_reset_and_hazards.md R581). One structure per unit; the state holds one of each, the memories,
the bus latches, the arguments of the machine, the host's inputs and the outputs of R8. -/

namespace Sys2Proof.Machine

/-! ## Memories -/

/-- Sparse data by key: keys strictly rising, no entry equal to zero, which is what an unlisted key reads as
(log entry 7). -/
abbrev Sparse (w : Nat) := List (Nat × BitVec w)

/-- One memory of R30 as a list of (offset, byte) cells; an unlisted offset reads as 0x00 (log entry 7). -/
abbrev Memory := List Host.Cell

/-! ## CPU (R21 to R28) -/

/-- `IME` (R26). -/
inductive Ime where
  | disabled
  | pending
  | enabled
deriving DecidableEq, Repr

/-- The flag register `F` (R23): it stores only bits 7..4, so bits 3..0 have no place here. -/
structure Flags where
  z : Bool
  n : Bool
  h : Bool
  c : Bool
deriving DecidableEq, Repr

/-- The CPU (R21 to R27). `haltBugPending` exists when `HALT_BUG` is true (R27). -/
structure Cpu where
  a : Byte
  f : Flags
  b : Byte
  c : Byte
  d : Byte
  e : Byte
  h : Byte
  l : Byte
  sp : Word
  pc : Word
  ime : Ime
  halted : Bool
  haltBugPending : Bool
deriving DecidableEq, Repr

/-! ## Interrupt controller, timer, joypad, serial port (R31 to R35) -/

/-- The interrupt controller: `IE`, the five bits of `IF`, and `irq_req` (R31, R32). -/
structure Irq where
  ie : Byte
  flags : BitVec 5
  req : BitVec 5
deriving DecidableEq, Repr

/-- The timer (R33). -/
structure Timer where
  counter : Word
  tima : Byte
  tma : Byte
  tac : BitVec 3
  reloadPending : Bool
deriving DecidableEq, Repr

/-- The joypad edge detector (R34): bits 5 and 4 of JOYP, and the nibble at the previous edge check. -/
structure Joypad where
  select : BitVec 2
  prev : BitVec 4
deriving DecidableEq, Repr

/-- The host's eight buttons (R411), true while held. -/
structure Buttons where
  a : Bool
  b : Bool
  select : Bool
  start : Bool
  right : Bool
  left : Bool
  up : Bool
  down : Bool
deriving DecidableEq, Repr

/-- The serial port (R35): `SB`, and bits 7, 1 and 0 of `SC`. -/
structure Serial where
  sb : Byte
  /-- SC bit 7, transfer start -/
  start : Bool
  /-- SC bit 1, fast clock, `Cgb` only -/
  fast : Bool
  /-- SC bit 0, internal clock -/
  internal : Bool
deriving DecidableEq, Repr

/-! ## DMA engines (R36, R37) -/

/-- `dma_status` (R36). -/
inductive DmaStatus where
  | idle
  | requested
  | active
deriving DecidableEq, Repr

/-- The OAM-DMA engine (R36). -/
structure OamDma where
  status : DmaStatus
  /-- the register DMA, the source page -/
  page : Byte
  /-- 0 to 0xA0 -/
  offset : Nat
  writtenThisCycle : Bool
deriving DecidableEq, Repr

/-- `vdma_mode` (R37). -/
inductive VdmaMode where
  | idle
  | general
  | hblank
deriving DecidableEq, Repr

/-- The VRAM-DMA engine (R37), used on `Cgb` only. -/
structure VramDma where
  mode : VdmaMode
  src : Word
  dst : Word
  /-- blocks of 16 bytes left, 0 to 128 -/
  remaining : Nat
  stallBlocks : Nat
  hdma1 : Byte
  hdma2 : Byte
  hdma3 : Byte
  hdma4 : Byte
deriving DecidableEq, Repr

/-! ## PPU (R38, R39) -/

/-- `mode` (R39). -/
inductive PpuMode where
  | hblank
  | vblank
  | oamScan
  | drawing
deriving DecidableEq, Repr

/-- BCPS or OCPS (R72): the auto-increment bit and the index. -/
structure PalIndex where
  inc : Bool
  index : BitVec 6
deriving DecidableEq, Repr

/-- An entry of `line_sprites` (R500): OAM index, the four OAM bytes, and whether it was fetched on this line. -/
structure Sprite where
  i : Nat
  y : Byte
  x : Byte
  t : Byte
  a : Byte
  done : Bool
deriving DecidableEq, Repr

/-- An entry of `bg_fifo` (R502). -/
structure BgPixel where
  color : BitVec 2
  pal : BitVec 3
  pri : Bool
deriving DecidableEq, Repr

/-- A filled slot of `obj_fifo` (R502). -/
structure ObjPixel where
  color : BitVec 2
  pal : BitVec 3
  idx : Nat
  bgpri : Bool
deriving DecidableEq, Repr

/-- The fetcher's state (R39, R520). -/
inductive FetchState where
  | getTile
  | getTileDataLow
  | getTileDataHigh
  | push
deriving DecidableEq, Repr

/-- A sprite fetch in progress: which sprite, dots left (R39, R503). -/
structure SpriteFetch where
  sprite : Sprite
  dotsLeft : Nat
deriving DecidableEq, Repr

/-- The mode-3 pipeline (R39, R502). -/
structure Pipeline where
  lx : Nat
  bgFifo : List BgPixel
  objFifo : List (Option ObjPixel)
  fState : FetchState
  fSub : Nat
  fetchX : Nat
  fetchWindow : Bool
  firstFetch : Bool
  pushed : Bool
  fTile : Byte
  fAttr : Byte
  fLo : Byte
  fHi : Byte
  discard : Nat
  spriteFetch : Option SpriteFetch
deriving DecidableEq, Repr

/-- The PPU's registers and internal state (R38, R39). -/
structure Ppu where
  lcdc : Byte
  /-- STAT bits 6..3 -/
  statEnable : BitVec 4
  scy : Byte
  scx : Byte
  ly : Byte
  lyc : Byte
  bgp : Byte
  obp0 : Byte
  obp1 : Byte
  wy : Byte
  wx : Byte
  vbk : BitVec 1
  bcps : PalIndex
  ocps : PalIndex
  opri : BitVec 1
  mode : PpuMode
  /-- 0 to 455 -/
  dot : Nat
  statLine : Bool
  lineSprites : List Sprite
  wyReached : Bool
  windowLine : Nat
  winActive : Bool
  pipe : Pipeline
deriving DecidableEq, Repr

/-! ## The bus, the outside world, the whole state -/

/-- The external cartridge (R86). `noMbc` is the cartridge of the test vectors: 32 KiB of ROM, no RAM. `other` is
any cartridge whose inside is not held here: its answers are free values. -/
inductive Cart where
  | noMbc (rom : Memory)
  | other
deriving DecidableEq, Repr

/-- One entry of the bus trace (R97). -/
inductive BusEvent where
  | read (addr : Word) (value : Byte)
  | write (addr : Word) (value : Byte)
  | idle
deriving DecidableEq, Repr

/-- The whole state (R20). -/
structure State where
  cpu : Cpu
  irq : Irq
  timer : Timer
  joypad : Joypad
  serial : Serial
  oamDma : OamDma
  vdma : VramDma
  ppu : Ppu
  /-- `vram[bank][off]` at key 0x2000·bank + off (R30) -/
  vram : Memory
  oam : Memory
  /-- `wram[bank][off]` at key 0x1000·bank + off (R30) -/
  wram : Memory
  hram : Memory
  bgCram : Memory
  objCram : Memory
  /-- the pixels written so far, at key 160·y + x (R30, R487) -/
  frameBuffer : Sparse 32
  bootMapped : Bool
  svbk : BitVec 3
  doubleSpeed : Bool
  key1Armed : Bool
  mcycles : Nat
  /-- R6: arguments of the model that no step changes -/
  params : Params
  cart : Cart
  /-- contents of the boot ROM (R84), an argument of the model -/
  bootRom : Memory
  /-- R411: the buttons held during this step -/
  buttons : Buttons
  /-- R411: the buttons the host will hold at the coming steps, the next one first (log entry 8) -/
  inputs : List Buttons
  /-- R97: the CPU's M-cycles of the last step, the newest first (log entry 9) -/
  trace : List BusEvent
  /-- R423: every byte emitted to the serial sink, the oldest first (log entry 9) -/
  serialOut : List Byte
  /-- R487: how many `frame_done` events were raised (log entry 9) -/
  framesDone : Nat
deriving DecidableEq, Repr

/-! ## Why a step can stop -/

/-- The two fault kinds of the model (R340: gaps of the spec, not exceptions of the hardware). -/
inductive Fault where
  /-- Raised by the meanings of the eleven ILLEGAL rows (R326: `fault IllegalOpcode(op)`). Safe: the model stops. -/
  | illegalOpcode (op : Byte)
  /-- Raised by interrupt dispatch when no enabled request is left after the pushes (R351, R353:
  `fault IrqVanished`). Safe: the model stops. -/
  | irqVanished
deriving DecidableEq, Repr

/-- Refusals. No meaning of this model raises one. -/
inductive Refusal where
  /-- Raised only by an arm of `exec` whose instruction has no meaning yet. Safe. -/
  | notModelled (mnemonic : String)
deriving DecidableEq, Repr

/-! ## Reset (R581) -/

/-- What a launch supplies (R600): the arguments of R6, the external units, and every part of the state whose
power-on value R581 leaves unspecified. -/
structure Launch where
  params : Params
  cart : Cart
  bootRom : Memory
  a : Byte
  f : Flags
  b : Byte
  c : Byte
  d : Byte
  e : Byte
  h : Byte
  l : Byte
  sp : Word
  vram : Memory
  oam : Memory
  wram : Memory
  hram : Memory
  bgCram : Memory
  objCram : Memory
  frameBuffer : Sparse 32
  buttons : Buttons
  inputs : List Buttons
deriving DecidableEq, Repr

/-- The pipeline before any mode 3: R39 calls it irrelevant while `mode != Drawing`. -/
def Pipeline.quiet : Pipeline :=
  { lx := 0, bgFifo := [], objFifo := [], fState := .getTile, fSub := 0, fetchX := 0, fetchWindow := false,
    firstFetch := true, pushed := false, fTile := 0, fAttr := 0, fLo := 0, fHi := 0, discard := 0, spriteFetch := none }

/-- The PPU at power-on: all registers 0, LCD off (R38, R39, R581). -/
def Ppu.powerOn : Ppu :=
  { lcdc := 0, statEnable := 0, scy := 0, scx := 0, ly := 0, lyc := 0, bgp := 0, obp0 := 0, obp1 := 0, wy := 0, wx := 0,
    vbk := 0, bcps := { inc := false, index := 0 }, ocps := { inc := false, index := 0 }, opri := 0, mode := .hblank,
    dot := 0, statLine := false, lineSprites := [], wyReached := false, windowLine := 0, winActive := false,
    pipe := Pipeline.quiet }

/-- The power-on form of reset (R581): a boot ROM is supplied and mapped; what R581 leaves unspecified comes from
the launch. Whatever form `k` names, the machine is one loaded in this form. -/
def State.powerOn (k : Launch) : State :=
  { cpu := { a := k.a, f := k.f, b := k.b, c := k.c, d := k.d, e := k.e, h := k.h, l := k.l, sp := k.sp, pc := 0x0000,
             ime := .disabled, halted := false, haltBugPending := false },
    irq := { ie := 0, flags := 0, req := 0 },
    timer := { counter := 0, tima := 0, tma := 0, tac := 0, reloadPending := false },
    joypad := { select := 0b11, prev := 0xF },
    serial := { sb := 0, start := false, fast := false, internal := false },
    oamDma := { status := .idle, page := 0, offset := 0, writtenThisCycle := false },
    vdma := { mode := .idle, src := 0, dst := 0, remaining := 0, stallBlocks := 0, hdma1 := 0, hdma2 := 0, hdma3 := 0,
              hdma4 := 0 },
    ppu := Ppu.powerOn,
    vram := k.vram, oam := k.oam, wram := k.wram, hram := k.hram, bgCram := k.bgCram, objCram := k.objCram,
    frameBuffer := k.frameBuffer,
    bootMapped := true, svbk := 0, doubleSpeed := false, key1Armed := false, mcycles := 0,
    params := { k.params with resetForm := .powerOn }, cart := k.cart, bootRom := k.bootRom, buttons := k.buttons,
    inputs := k.inputs,
    trace := [], serialOut := [], framesDone := 0 }

/-- No button held (R411: "a fresh machine has it empty"). -/
def Buttons.none : Buttons :=
  { a := false, b := false, select := false, start := false, right := false, left := false, up := false, down := false }

/-- Four zero pixels, the model's own value for an open parameter (log entry 6). -/
def Shades.zero : Shades := { s0 := 0, s1 := 0, s2 := 0, s3 := 0 }

/-- The arguments of R6 the reset state is built with: `Dmg`, every parameter at its default (log entries 2 and 6). -/
def Params.default : Params :=
  { model := .dmg, resetForm := .powerOn, haltBug := false, stopSwallowsOperand := false, hdmaRunsWhileHalted := true,
    shadesBg := Shades.zero, shadesObj0 := Shades.zero, shadesObj1 := Shades.zero }

/-- The launch the reset state is built from: registers and memories that R581 leaves unspecified are zero (log
entries 1 and 7), nothing is loaded (log entry 10). -/
def Launch.default : Launch :=
  { params := Params.default, cart := .noMbc [], bootRom := [], a := 0,
    f := { z := false, n := false, h := false, c := false }, b := 0, c := 0, d := 0, e := 0, h := 0, l := 0, sp := 0,
    vram := [], oam := [], wram := [], hram := [], bgCram := [], objCram := [], frameBuffer := [],
    buttons := Buttons.none, inputs := [] }

/-- The machine right after reset, in the power-on form (R581). -/
def State.reset : State := State.powerOn Launch.default

end Sys2Proof.Machine
end

