-- ==== Sys2Proof/Machine/Flags.lean ====
section
/-! DEFINITION. Every result and flag computation of the instruction set (42_alu8.md R210, R239; 43_alu16.md R250,
R253; 41_load16.md R205; 44_rotate_shift_bit.md R260). Operands are read as numbers, the exact result is computed, and
it is narrowed at the end, as R10 says. -/

namespace Sys2Proof.Machine

/-- A Bool as the number 0 or 1. -/
def carryIn (c : Bool) : Nat := if c then 1 else 0

/-- `F` as a byte: Z, N, H, C in bits 7 to 4, bits 3..0 zero (R23). -/
def Flags.toByte (f : Flags) : Byte := byteOfBits f.z f.n f.h f.c false false false false

/-- A write of all eight bits to `F`: masked with 0xF0 (R11, R23). -/
def Flags.ofByte (v : Byte) : Flags :=
  { z := v.getLsbD 7, n := v.getLsbD 6, h := v.getLsbD 5, c := v.getLsbD 4 }

/-- A result byte with the flags it sets. -/
structure AluOut where
  val : Byte
  flags : Flags
deriving DecidableEq, Repr

/-- `Add8(a, b, cin)` (R210). -/
def add8 (a b : Byte) (cin : Bool) : AluOut :=
  let s := a.toNat + b.toNat + carryIn cin
  let r : Byte := BitVec.ofNat 8 s
  { val := r
    flags := { z := decide (r = 0), n := false, h := decide (0xF < a.toNat % 16 + b.toNat % 16 + carryIn cin),
               c := decide (0xFF < s) } }

/-- `Sub8(a, b, cin)` (R210): the exact difference may be negative. -/
def sub8 (a b : Byte) (cin : Bool) : AluOut :=
  let d : Int := (a.toNat : Int) - b.toNat - carryIn cin
  let r : Byte := BitVec.ofInt 8 d
  { val := r
    flags := { z := decide (r = 0), n := true, h := decide (a.toNat % 16 < b.toNat % 16 + carryIn cin),
               c := decide (d < 0) } }

/-- `AND` (R223). -/
def and8 (a b : Byte) : AluOut :=
  { val := a &&& b, flags := { z := decide (a &&& b = 0), n := false, h := true, c := false } }

/-- `XOR` (R226). -/
def xor8 (a b : Byte) : AluOut :=
  { val := a ^^^ b, flags := { z := decide (a ^^^ b = 0), n := false, h := false, c := false } }

/-- `OR` (R229). -/
def or8 (a b : Byte) : AluOut :=
  { val := a ||| b, flags := { z := decide (a ||| b = 0), n := false, h := false, c := false } }

/-- `INC` of a byte (R235): `C` stays. -/
def inc8 (v : Byte) (f : Flags) : AluOut :=
  { val := v + 1, flags := { z := decide (v + 1 = 0), n := false, h := decide (v.toNat % 16 = 0xF), c := f.c } }

/-- `DEC` of a byte (R237): `C` stays. -/
def dec8 (v : Byte) (f : Flags) : AluOut :=
  { val := v - 1, flags := { z := decide (v - 1 = 0), n := true, h := decide (v.toNat % 16 = 0), c := f.c } }

/-- `DAA` after an addition, N = 0 (R239): whether 0x60 is added, which is also the new carry. -/
def daaHighAdjust (a : Byte) (f : Flags) : Bool := f.c || decide (0x99 < a.toNat)

/-- `DAA` after an addition, N = 0 (R239): whether 0x06 is added. -/
def daaLowAdjust (a : Byte) (f : Flags) : Bool := f.h || decide (9 < a.toNat % 16)

/-- `DAA` (R239). -/
def daa (a : Byte) (f : Flags) : AluOut :=
  let c := if f.n then f.c else daaHighAdjust a f
  let r : Byte :=
    if f.n then
      BitVec.ofInt 8 ((a.toNat : Int) - (if f.c then 0x60 else 0) - (if f.h then 0x06 else 0))
    else
      BitVec.ofNat 8 (a.toNat + (if daaHighAdjust a f then 0x60 else 0) + (if daaLowAdjust a f then 0x06 else 0))
  { val := r, flags := { z := decide (r = 0), n := f.n, h := false, c := c } }

/-- `CPL` (R240). -/
def cpl (a : Byte) (f : Flags) : AluOut := { val := a ^^^ 0xFF, flags := { f with n := true, h := true } }

/-- The flags of `SCF` (R241). -/
def scf (f : Flags) : Flags := { f with n := false, h := false, c := true }

/-- The flags of `CCF` (R242). -/
def ccf (f : Flags) : Flags := { f with n := false, h := false, c := !f.c }

/-- The flags of `ADD HL,rr` (R250): carries out of bits 11 and 15, `Z` unchanged. -/
def addHlFlags (hl v : Word) (f : Flags) : Flags :=
  { z := f.z, n := false, h := decide (0x0FFF < hl.toNat % 0x1000 + v.toNat % 0x1000),
    c := decide (0xFFFF < hl.toNat + v.toNat) }

/-- The flags of `ADD SP,e` and `LD HL,SP+e` (R205, R253): `e` is the unsigned byte. -/
def addSpFlags (sp : Word) (e : Byte) : Flags :=
  { z := false, n := false, h := decide (0xF < sp.toNat % 16 + e.toNat % 16),
    c := decide (0xFF < sp.toNat % 0x100 + e.toNat) }

/-! ## Rotates and shifts (R260): the result and the carry out -/

/-- `RLC`: `{v[6:0], v[7]}`. -/
def rlc (v : Byte) : Byte × Bool := (v.extractLsb' 0 7 ++ v.extractLsb' 7 1, v.getLsbD 7)
/-- `RRC`: `{v[0], v[7:1]}`. -/
def rrc (v : Byte) : Byte × Bool := (v.extractLsb' 0 1 ++ v.extractLsb' 1 7, v.getLsbD 0)
/-- `RL`: `{v[6:0], c}`. -/
def rl (v : Byte) (c : Bool) : Byte × Bool := (v.extractLsb' 0 7 ++ bitOf c, v.getLsbD 7)
/-- `RR`: `{c, v[7:1]}`. -/
def rr (v : Byte) (c : Bool) : Byte × Bool := (bitOf c ++ v.extractLsb' 1 7, v.getLsbD 0)
/-- `SLA`: `{v[6:0], 0}`. -/
def sla (v : Byte) : Byte × Bool := (v.extractLsb' 0 7 ++ (0 : BitVec 1), v.getLsbD 7)
/-- `SRA`: `{v[7], v[7:1]}`. -/
def sra (v : Byte) : Byte × Bool := (v.extractLsb' 7 1 ++ v.extractLsb' 1 7, v.getLsbD 0)
/-- `SWAP`: `{v[3:0], v[7:4]}`, carry out 0. -/
def swap (v : Byte) : Byte × Bool := (v.extractLsb' 0 4 ++ v.extractLsb' 4 4, false)
/-- `SRL`: `{0, v[7:1]}`. -/
def srl (v : Byte) : Byte × Bool := ((0 : BitVec 1) ++ v.extractLsb' 1 7, v.getLsbD 0)

/-- The CB forms set `Flags(r = 0, 0, 0, cout)` (R260). -/
def rotFlags (p : Byte × Bool) : Flags := { z := decide (p.1 = 0), n := false, h := false, c := p.2 }

/-- The accumulator forms set `Flags(0, 0, 0, c)` (R261 to R264). -/
def rotAFlags (p : Byte × Bool) : Flags := { z := false, n := false, h := false, c := p.2 }

/-- `BIT b` (R281): `Flags(v[b] = 0, 0, 1, -)`. -/
def bitFlags (v : Byte) (b : Nat) (f : Flags) : Flags := { z := !v.getLsbD b, n := false, h := true, c := f.c }

/-- `RES b` (R283): `v & ~(1 << b)`. -/
def resBit (v : Byte) (b : Nat) : Byte := v &&& ~~~ ((1 : Byte) <<< b)

/-- `SET b` (R285): `v | (1 << b)`. -/
def setBit (v : Byte) (b : Nat) : Byte := v ||| ((1 : Byte) <<< b)

end Sys2Proof.Machine
end

