-- ==== Sys2Proof/Machine/Timer.lean ====
section
/-! DEFINITION. The timer and divider (61_timer.md R390 to R397) and the request set `irq_req` (R344, R345). -/

namespace Sys2Proof.Machine

/-! ## The interrupt controller's own operations -/

/-- `RequestIrq(i)` (R344): set bit `i` of `irq_req`. -/
def Irq.request (q : Irq) (i : Nat) : Irq := { q with req := q.req ||| irqBit i }

/-- `RequestIrq(i)` if the condition holds. -/
def Irq.requestIf (q : Irq) (cond : Bool) (i : Nat) : Irq := if cond then q.request i else q

/-- Sub-step 7 (R345): `IF <- IF | irq_req ; irq_req <- 0`. -/
def Irq.settle (q : Irq) : Irq := { q with flags := q.flags ||| q.req, req := 0 }

/-- `IE & IF & 0x1F` (R342, R350). -/
def Irq.pending (q : Irq) : BitVec 5 := q.ie.setWidth 5 &&& q.flags

/-- The index of the lowest set bit of `p`, 5 when none is set (R343, R351). -/
def lowestIrq (p : BitVec 5) : Nat :=
  if p.getLsbD 0 then 0 else if p.getLsbD 1 then 1 else if p.getLsbD 2 then 2
  else if p.getLsbD 3 then 3 else if p.getLsbD 4 then 4 else 5

/-- The IF byte a read returns (R52): `0xE0 | IF[4:0]`. -/
def Irq.readIf (q : Irq) : Byte := 0xE0 ||| q.flags.setWidth 8

/-- A write to IF stores `v[4:0]` (R52, R346). -/
def Irq.writeIf (q : Irq) (v : Byte) : Irq := { q with flags := v.setWidth 5 }

/-! ## The timer -/

/-- The counter bit that `TAC[1:0]` selects (R51, R391). -/
def timerBit (tac : BitVec 3) : Nat :=
  match (tac.setWidth 2).toNat with
  | 0 => 9
  | 1 => 3
  | 2 => 5
  | _ => 7

/-- `TimerSignal()` (R391): `counter[b] & TAC[2]`. -/
def Timer.signal (t : Timer) : Bool := t.counter.getLsbD (timerBit t.tac) && t.tac.getLsbD 2

/-- `TimaIncrement()` (R391). -/
def Timer.increment (t : Timer) : Timer :=
  if t.tima = 0xFF then { t with tima := 0x00, reloadPending := true } else { t with tima := t.tima + 1 }

/-- `TimaIncrement()` if the signal was `old` before and is 0 now: the one falling-edge detector (R390). -/
def Timer.edge (t : Timer) (old : Bool) : Timer := if old && !t.signal then t.increment else t

/-- The reload part of `TimerStep()` (R392); the Timer request that goes with it is in `State.timerStep`. -/
def Timer.reload (t : Timer) : Timer :=
  if t.reloadPending then { t with tima := t.tma, reloadPending := false } else t

/-- The counter's advance by one M-cycle, four master clocks (R392). -/
def Timer.advance (t : Timer) : Timer := { t with counter := t.counter + 4 }.edge t.signal

/-- `TimerStep()` less the interrupt request (R392). -/
def Timer.step (t : Timer) : Timer := t.reload.advance

/-- A write to DIV, any value (R394). -/
def Timer.writeDiv (t : Timer) : Timer := { t with counter := 0 }.edge t.signal

/-- A write to TIMA (R395). -/
def Timer.writeTima (t : Timer) (v : Byte) : Timer := { t with tima := v, reloadPending := false }

/-- A write to TMA (R396). -/
def Timer.writeTma (t : Timer) (v : Byte) : Timer :=
  { t with tma := v, tima := if t.reloadPending then v else t.tima }

/-- A write to TAC (R397). -/
def Timer.writeTac (t : Timer) (v : Byte) : Timer := { t with tac := v.setWidth 3 }.edge t.signal

/-- DIV as a read returns it: `counter[15:8]` (R393). -/
def Timer.readDiv (t : Timer) : Byte := hiByte t.counter

/-- TAC as a read returns it: `0xF8 | TAC[2:0]` (R397). -/
def Timer.readTac (t : Timer) : Byte := 0xF8 ||| t.tac.setWidth 8

/-- Sub-step 3 of every M-cycle (R392, R110): the reload requests the Timer interrupt, index 2. -/
def State.timerStep (s : State) : State :=
  { s with timer := s.timer.step, irq := s.irq.requestIf s.timer.reloadPending 2 }

end Sys2Proof.Machine
end

