-- ==== Sys2Proof/Machine/JoypadSerial.lean ====
section
/-! DEFINITION. The joypad edge detector and the serial port (62_joypad_serial.md R410 to R423). -/

namespace Sys2Proof.Machine

/-! ## Joypad -/

/-- The nibble a selected line puts out: bit `i` is 0 while its button is held (R412). -/
def lineNibble (b3 b2 b1 b0 : Bool) : BitVec 4 := bitOf (!b3) ++ bitOf (!b2) ++ bitOf (!b1) ++ bitOf (!b0)

/-- `JoyNibble()` (R412). -/
def Joypad.nibble (j : Joypad) (b : Buttons) : BitVec 4 :=
  (if j.select.getLsbD 0 then 0xF else lineNibble b.down b.up b.left b.right) &&&
  (if j.select.getLsbD 1 then 0xF else lineNibble b.start b.select b.b b.a)

/-- JOYP as a read returns it: `0xC0 | (joyp_select << 4) | JoyNibble()` (R412). -/
def Joypad.read (j : Joypad) (b : Buttons) : Byte := (0b11 : BitVec 2) ++ j.select ++ j.nibble b

/-- A write to JOYP stores `v[5:4]` (R413). -/
def Joypad.write (j : Joypad) (v : Byte) : Joypad := { j with select := v.extractLsb' 4 2 }

/-- Some bit of the nibble went from 1 to 0 since the previous M-cycle (R414). -/
def Joypad.fell (j : Joypad) (b : Buttons) : Bool := decide (j.prev &&& ~~~ j.nibble b ≠ 0)

/-- `JoypadStep()` less the request (R414). -/
def Joypad.step (j : Joypad) (b : Buttons) : Joypad := { j with prev := j.nibble b }

/-- Sub-step 6 of every M-cycle (R414): a fall requests the Joypad interrupt, index 4. -/
def State.joypadStep (s : State) : State :=
  { s with joypad := s.joypad.step s.buttons, irq := s.irq.requestIf (s.joypad.fell s.buttons) 4 }

/-! ## Serial port -/

/-- SC as a read returns it: the stored bits, every other bit 1 (R421). -/
def Serial.readSc (p : Serial) (m : Model) : Byte :=
  byteOfBits p.start true true true true true (match m with | .cgb => p.fast | .dmg => true) p.internal

/-- A write to SC stores bits 7 and 0, and on `Cgb` bit 1 (R421). -/
def Serial.writeSc (p : Serial) (m : Model) (v : Byte) : Serial :=
  { p with start := v.getLsbD 7, internal := v.getLsbD 0,
           fast := match m with | .cgb => v.getLsbD 1 | .dmg => p.fast }

/-- A transfer is armed (R421): `SC[7] = 1` and `SC[0] = 1`. -/
def Serial.armed (p : Serial) : Bool := p.start && p.internal

/-- `SerialStep()` less the request and the emitted byte (R422). -/
def Serial.step (p : Serial) : Serial := if p.armed then { p with sb := 0xFF, start := false } else p

/-- Sub-step 5 of every M-cycle (R422): an armed transfer completes at once, emits `SB` and requests the Serial
interrupt, index 3. -/
def State.serialStep (s : State) : State :=
  { s with
    serial := s.serial.step
    serialOut := if s.serial.armed then s.serialOut ++ [s.serial.sb] else s.serialOut
    irq := s.irq.requestIf s.serial.armed 3 }

end Sys2Proof.Machine
end

