-- ==== Sys2Proof/Machine/Memory.lean ====
section
/-! DEFINITION. Reading and writing sparse data in its one canonical form: keys strictly rising, no entry equal to
zero. The memories of 10_state.md R30 are read and written only through these. -/

namespace Sys2Proof.Machine

/-- What an unlisted key reads as (log entry 7: the spec gives no memory a content at reset). -/
def Sparse.unlisted (w : Nat) : BitVec w := 0

/-- The value at key `k`. -/
def Sparse.read {w : Nat} : Sparse w → Nat → BitVec w
  | [], _ => Sparse.unlisted w
  | (j, v) :: m, k => if k = j then v else if k < j then Sparse.unlisted w else Sparse.read m k

/-- An entry in front of `m`, left out when it says what an unlisted key says. -/
def Sparse.consNonzero {w : Nat} (k : Nat) (v : BitVec w) (m : Sparse w) : Sparse w :=
  if v = Sparse.unlisted w then m else (k, v) :: m

/-- Store `v` at key `k`, keeping the canonical form. -/
def Sparse.write {w : Nat} : Sparse w → Nat → BitVec w → Sparse w
  | [], k, v => Sparse.consNonzero k v []
  | (j, u) :: m, k, v =>
    if k < j then Sparse.consNonzero k v ((j, u) :: m)
    else if k = j then Sparse.consNonzero k v m
    else (j, u) :: Sparse.write m k v

/-- All keys of `m` are above `k`, strictly rising, and no entry is zero. -/
def Sparse.wfAbove {w : Nat} : Nat → Sparse w → Bool
  | _, [] => true
  | k, (j, v) :: m => decide (k < j) && decide (v ≠ Sparse.unlisted w) && Sparse.wfAbove j m

/-- The canonical form: keys strictly rising, no entry zero. -/
def Sparse.wf {w : Nat} : Sparse w → Bool
  | [] => true
  | (j, v) :: m => decide (v ≠ Sparse.unlisted w) && Sparse.wfAbove j m

/-- Every key is below `n`. -/
def Sparse.below {w : Nat} (n : Nat) : Sparse w → Bool
  | [] => true
  | (j, _) :: m => decide (j < n) && Sparse.below n m

/-- The byte at offset `k` of a memory. -/
def Memory.read (m : Memory) (k : Nat) : Byte := Sparse.read m k

/-- Store a byte at offset `k` of a memory. -/
def Memory.write (m : Memory) (k : Nat) (v : Byte) : Memory := Sparse.write m k v

/-- The canonical form of a memory. -/
def Memory.wf (m : Memory) : Bool := Sparse.wf m

/-- Every listed offset of a memory is below `n`. -/
def Memory.below (n : Nat) (m : Memory) : Bool := Sparse.below n m

/-- `n` bytes, `f` of each offset, from offset 0: how a caller writes a whole memory out. -/
def Memory.ofBytes : Nat → List Byte → Memory
  | _, [] => []
  | k, v :: vs => Sparse.consNonzero k v (Memory.ofBytes (k + 1) vs)

end Sys2Proof.Machine
end

