-- ==== Sys2Proof/Machine/Ppu.lean ====
section
/-! DEFINITION. The PPU: registers, STAT line, OAM scan, the reference pixel pipeline of mode 3, mixing, the dot step
(65_ppu.md R480 to R547). Every function here is a function of the PPU's own state and of the memories it reads;
`State.ppuDot` puts the result back. -/

namespace Sys2Proof

/-- `Model = Cgb` (R6). -/
def Params.isCgb (p : Params) : Bool := decide (p.model = .cgb)

/-- Entry `i` of a shade table (R543). -/
def Shades.get (t : Shades) (i : BitVec 2) : Pixel :=
  match i.toNat with
  | 0 => t.s0
  | 1 => t.s1
  | 2 => t.s2
  | _ => t.s3

end Sys2Proof

namespace Sys2Proof.Machine

/-- What the PPU reads besides its own state: the arguments of the machine, `vram`, `oam`, the colour RAMs. -/
structure Video where
  params : Params
  vram : Memory
  oam : Memory
  bgCram : Memory
  objCram : Memory

/-- The video memories of a state. -/
def State.video (s : State) : Video :=
  { params := s.params, vram := s.vram, oam := s.oam, bgCram := s.bgCram, objCram := s.objCram }

/-- `vram[bank][off]`, the offset modulo the size of a bank (R481, R536). -/
def Video.byte (v : Video) (bank : Bool) (off : Nat) : Byte :=
  v.vram.read ((if bank then 0x2000 else 0) + off % 0x2000)

/-! ## Register fields (R53, R54) -/

/-- LCDC bit 7: the LCD and the PPU are on (R53, R486). -/
def Ppu.lcdOn (p : Ppu) : Bool := p.lcdc.getLsbD 7

/-- The height of a sprite, LCDC bit 2 (R53, R500). -/
def Ppu.objHeight (p : Ppu) : Nat := if p.lcdc.getLsbD 2 then 16 else 8

/-- The two mode bits of STAT (R39, R54). -/
def PpuMode.bits : PpuMode → BitVec 2
  | .hblank => 0
  | .vblank => 1
  | .oamScan => 2
  | .drawing => 3

/-- `Coincidence()` (R490). -/
def Ppu.coincidence (p : Ppu) : Bool := decide (p.ly = p.lyc)

/-- STAT as a read returns it (R54, R491). -/
def Ppu.readStat (p : Ppu) : Byte := (1 : BitVec 1) ++ p.statEnable ++ bitOf p.coincidence ++ p.mode.bits

/-! ## The STAT line (R491) -/

/-- The OR of the enabled sources (R491). `statEnable` holds STAT bits 6..3. -/
def Ppu.statSources (p : Ppu) : Bool :=
  (p.statEnable.getLsbD 3 && p.coincidence) || (p.statEnable.getLsbD 2 && decide (p.mode = .oamScan)) ||
  (p.statEnable.getLsbD 1 && decide (p.mode = .vblank)) || (p.statEnable.getLsbD 0 && decide (p.mode = .hblank))

/-- `StatUpdate()` requests the LcdStat interrupt: a rising edge of the line while the LCD is on (R491). -/
def Ppu.statRises (p : Ppu) : Bool := p.lcdOn && p.statSources && !p.statLine

/-- `StatUpdate()` less the request (R491). -/
def Ppu.statUpdate (p : Ppu) : Ppu := if p.lcdOn then { p with statLine := p.statSources } else p

/-! ## Lines and register writes (R485, R486, R496) -/

/-- `BeginLine()` (R496, R497). -/
def Ppu.beginLine (p : Ppu) : Ppu :=
  if p.ly.toNat < 144 then { p with mode := .oamScan, wyReached := p.wyReached || decide (p.ly = p.wy) } else p

/-- LCDC bit 7 goes from 1 to 0 (R486). -/
def Ppu.switchOff (p : Ppu) : Ppu := { p with mode := .hblank, ly := 0, dot := 0, statLine := false }

/-- LCDC bit 7 goes from 0 to 1, less the `StatUpdate()` that follows (R486). -/
def Ppu.switchOn (p : Ppu) : Ppu :=
  { p with ly := 0, dot := 0, wyReached := false, windowLine := 0, winActive := false }.beginLine

/-- A write to LCDC before the `StatUpdate()` that a switch-on ends with (R485, R486). -/
def Ppu.storeLcdc (p : Ppu) (v : Byte) : Ppu :=
  let q := { p with lcdc := v }
  if p.lcdOn && !q.lcdOn then q.switchOff else if !p.lcdOn && q.lcdOn then q.switchOn else q

/-- A write to LCDC evaluates the STAT line only when it switches the LCD on (R486, D28). -/
def Ppu.lcdcSwitchesOn (p : Ppu) (v : Byte) : Bool := !p.lcdOn && v.getLsbD 7

/-! ## Mode 2 (R500) -/

/-- The entries `i` to `i + n - 1` of OAM that cover line `ly`, in OAM order (R500). -/
def scanOam (oam : Memory) (ly h : Nat) : Nat → Nat → List Sprite
  | 0, _ => []
  | n + 1, i =>
    let y := oam.read (4 * i)
    if y.toNat ≤ ly + 16 ∧ ly + 16 < y.toNat + h then
      { i := i, y := y, x := oam.read (4 * i + 1), t := oam.read (4 * i + 2), a := oam.read (4 * i + 3), done := false }
        :: scanOam oam ly h n (i + 1)
    else scanOam oam ly h n (i + 1)

/-- Put a sprite in front of the first one that is not left of it. -/
def insertByX (s : Sprite) : List Sprite → List Sprite
  | [] => [s]
  | t :: ts => if s.x.toNat ≤ t.x.toNat then s :: t :: ts else t :: insertByX s ts

/-- Sort by X ascending, equal X keeping their order (R500). -/
def sortByX : List Sprite → List Sprite
  | [] => []
  | s :: ss => insertByX s (sortByX ss)

/-- `OamScan()` (R500): up to ten sprites of the line, sorted. -/
def Ppu.oamScan (v : Video) (p : Ppu) : Ppu :=
  { p with lineSprites := sortByX ((scanOam v.oam p.ly.toNat p.objHeight 40 0).take 10) }

/-- `StartMode3()` (R502). -/
def Ppu.startMode3 (p : Ppu) : Ppu :=
  { p with
    mode := .drawing
    winActive := false
    pipe := { p.pipe with
      lx := 0, bgFifo := [], objFifo := [], fState := .getTile, fSub := 0, fetchX := 0, fetchWindow := false,
      firstFetch := true, pushed := false, fAttr := 0, discard := (p.scx.setWidth 3).toNat, spriteFetch := none } }

/-! ## The background and window fetcher (R520 to R524) -/

/-- Where in a VRAM bank the tile number for the current fetch stands (R521). -/
def Ppu.tileMapOffset (p : Ppu) : Nat :=
  if p.pipe.fetchWindow then
    (if p.lcdc.getLsbD 6 then 0x1C00 else 0x1800) + 32 * (p.windowLine / 8 % 32) + p.pipe.fetchX % 32
  else
    (if p.lcdc.getLsbD 3 then 0x1C00 else 0x1800) + 32 * ((p.ly + p.scy).toNat / 8)
      + (p.scx.toNat / 8 + p.pipe.fetchX) % 32

/-- `FetchTileNumber()` (R521). -/
def Ppu.fetchTileNumber (v : Video) (p : Ppu) : Ppu :=
  { p with pipe := { p.pipe with
      fTile := v.byte false p.tileMapOffset
      fAttr := if v.params.isCgb then v.byte true p.tileMapOffset else 0 } }

/-- The row of the tile being fetched, flipped if its attribute says so (R522). -/
def Ppu.tileRow (p : Ppu) : Nat :=
  let line := if p.pipe.fetchWindow then p.windowLine % 8 else (p.ly + p.scy).toNat % 8
  if p.pipe.fAttr.getLsbD 6 then 7 - line else line

/-- The offset of a background tile's data: unsigned from 0, or signed from 0x1000 (R481, R522). -/
def bgTileOffset (unsigned : Bool) (t : Byte) : Nat :=
  if unsigned then 16 * t.toNat else if t.toNat < 128 then 0x1000 + 16 * t.toNat else 16 * t.toNat

/-- `FetchTileByte(k)`, `k` = 0 or 1 (R522). -/
def Ppu.fetchTileByte (v : Video) (p : Ppu) (k : Nat) : Byte :=
  v.byte (p.pipe.fAttr.getLsbD 3) (bgTileOffset (p.lcdc.getLsbD 4) p.pipe.fTile + 2 * p.tileRow + k)

/-- `{hi[b], lo[b]}` (R481). -/
def colorAt (hi lo : Byte) (b : Nat) : BitVec 2 := bitOf (hi.getLsbD b) ++ bitOf (lo.getLsbD b)

/-- `PushRow()` (R523): the eight pixels of the fetched row, left to right. -/
def Pipeline.row (q : Pipeline) : List BgPixel :=
  [0, 1, 2, 3, 4, 5, 6, 7].map fun i =>
    { color := colorAt q.fHi q.fLo (if q.fAttr.getLsbD 5 then i else 7 - i)
      pal := q.fAttr.setWidth 3
      pri := q.fAttr.getLsbD 7 }

/-- The `Push` state of the fetcher, after `f_sub` was advanced (R520). -/
def Pipeline.pushStep (q : Pipeline) : Pipeline :=
  let q := if !q.pushed && q.bgFifo.isEmpty then { q with bgFifo := q.row, fetchX := q.fetchX + 1, pushed := true } else q
  if q.pushed && decide (2 ≤ q.fSub) then { q with fState := .getTile, fSub := 0 } else q

/-- `BgFetchStep()` (R520, R524): one dot of the fetcher. -/
def Ppu.bgFetchStep (v : Video) (p : Ppu) : Ppu :=
  let p := { p with pipe := { p.pipe with fSub := p.pipe.fSub + 1 } }
  match p.pipe.fState with
  | .push => { p with pipe := p.pipe.pushStep }
  | .getTile =>
    if p.pipe.fSub < 2 then p
    else
      let p := { p with pipe := { p.pipe with fSub := 0 } }.fetchTileNumber v
      { p with pipe := { p.pipe with fState := .getTileDataLow, pushed := false } }
  | .getTileDataLow =>
    if p.pipe.fSub < 2 then p
    else { p with pipe := { p.pipe with fSub := 0, fLo := p.fetchTileByte v 0, fState := .getTileDataHigh, pushed := false } }
  | .getTileDataHigh =>
    if p.pipe.fSub < 2 then p
    else if p.pipe.firstFetch then
      { p with pipe := { p.pipe with fSub := 0, fHi := p.fetchTileByte v 1, firstFetch := false, fState := .getTile } }
    else { p with pipe := { p.pipe with fSub := 0, fHi := p.fetchTileByte v 1, fState := .push, pushed := false } }

/-! ## The window (R530, R531) -/

/-- The pixel column the window starts at (R530). -/
def Ppu.windowColumn (p : Ppu) : Nat := p.wx.toNat - 7

/-- `WindowTrigger()` says true (R530). -/
def Ppu.windowTriggers (v : Video) (p : Ppu) : Bool :=
  p.lcdc.getLsbD 5 && p.wyReached && !p.winActive && (v.params.isCgb || p.lcdc.getLsbD 0) &&
  decide (p.wx.toNat ≤ 166) && decide (p.pipe.lx = p.windowColumn)

/-- What `WindowTrigger()` does when it says true (R530). -/
def Ppu.startWindow (p : Ppu) : Ppu :=
  { p with
    winActive := true
    pipe := { p.pipe with
      bgFifo := [], fState := .getTile, fSub := 1, pushed := false, fetchX := 0, fetchWindow := true,
      firstFetch := false, discard := 7 - p.wx.toNat } }

/-! ## Sprites (R535, R536, R541) -/

/-- The sprite's turn at pixel `lx` (R535). -/
def Sprite.matches (s : Sprite) (lx : Nat) : Bool :=
  !s.done && (decide (s.x.toNat = lx + 8) || (decide (lx = 0) && decide (s.x.toNat < 8)))

/-- The first sprite whose turn it is, and the list with that sprite marked `done` (R503 step 4, R535). -/
def takeSprite (lx : Nat) : List Sprite → Option (Sprite × List Sprite)
  | [] => none
  | s :: ss =>
    if s.matches lx then some ({ s with done := true }, { s with done := true } :: ss)
    else match takeSprite lx ss with
      | none => none
      | some (t, ts) => some (t, s :: ts)

/-- `ObjBeats(px, cur)` (R541). -/
def objBeats (v : Video) (p : Ppu) (px cur : ObjPixel) : Bool :=
  v.params.isCgb && !p.opri.getLsbD 0 && decide (px.color ≠ 0) && decide (px.idx < cur.idx)

/-- Whether a new sprite pixel takes a slot of `obj_fifo` (R536). -/
def slotTaken (v : Video) (p : Ppu) (px : ObjPixel) : Option ObjPixel → Bool
  | none => true
  | some cur => decide (cur.color = 0) || objBeats v p px cur

/-- Merge the sprite's pixels `j` to 7 into the slots, one each (R536). -/
def mergeSlots (v : Video) (p : Ppu) (px : Nat → ObjPixel) : Nat → List (Option ObjPixel) → List (Option ObjPixel)
  | _, [] => []
  | j, cur :: rest =>
    if j ≤ 7 then (if slotTaken v p (px j) cur then some (px j) else cur) :: mergeSlots v p px (j + 1) rest
    else cur :: rest

/-- The offset in a VRAM bank of the sprite's row on this line, modulo the size of a bank (R536). -/
def Ppu.spriteRowOffset (p : Ppu) (s : Sprite) : Nat :=
  let line : Int := (p.ly.toNat : Int) + 16 - s.y.toNat
  let line := if s.a.getLsbD 6 then (p.objHeight : Int) - 1 - line else line
  let t := if p.lcdc.getLsbD 2 then s.t &&& 0xFE else s.t
  ((16 * t.toNat + 2 * line) % 0x2000).toNat

/-- `SpriteMerge(s)` (R536). -/
def Ppu.spriteMerge (v : Video) (p : Ppu) (s : Sprite) : Ppu :=
  let bank := v.params.isCgb && s.a.getLsbD 3
  let lo := v.byte bank (p.spriteRowOffset s)
  let hi := v.byte bank (p.spriteRowOffset s + 1)
  let px (j : Nat) : ObjPixel :=
    { color := colorAt hi lo (if s.a.getLsbD 5 then j else 7 - j)
      pal := if v.params.isCgb then s.a.setWidth 3 else (bitOf (s.a.getLsbD 4)).setWidth 3
      idx := s.i
      bgpri := s.a.getLsbD 7 }
  let slots := p.pipe.objFifo ++ List.replicate (8 - p.pipe.objFifo.length) none
  { p with pipe := { p.pipe with objFifo := mergeSlots v p px (8 - s.x.toNat) slots } }

/-! ## Mixing (R542 to R544) -/

/-- The field of a DMG palette register for a colour id (R59). -/
def paletteShade (reg : Byte) (color : BitVec 2) : BitVec 2 := reg.extractLsb' (2 * color.toNat) 2

/-- `Dmg` mixing (R543). -/
def Ppu.mixDmg (v : Video) (p : Ppu) (bg : BgPixel) (o : Option ObjPixel) : Pixel :=
  let bgc := if p.lcdc.getLsbD 0 then bg.color else 0
  let back := v.params.shadesBg.get (paletteShade p.bgp bgc)
  match o with
  | none => back
  | some o =>
    if decide (o.color ≠ 0) && p.lcdc.getLsbD 1 && !(o.bgpri && decide (bgc ≠ 0)) then
      if o.pal = 1 then v.params.shadesObj1.get (paletteShade p.obp1 o.color)
      else v.params.shadesObj0.get (paletteShade p.obp0 o.color)
    else back

/-- The 15-bit colour of a palette entry, low byte first (R544, R546). -/
def cramColor (m : Memory) (pal : BitVec 3) (color : BitVec 2) : BitVec 15 :=
  (m.read (8 * pal.toNat + 2 * color.toNat + 1)).setWidth 7 ++ m.read (8 * pal.toNat + 2 * color.toNat)

/-- `Cgb` mixing (R544). -/
def Ppu.mixCgb (v : Video) (p : Ppu) (bg : BgPixel) (o : Option ObjPixel) : Pixel :=
  let back := Config.rgb555ToRgba (cramColor v.bgCram bg.pal bg.color)
  match o with
  | none => back
  | some o =>
    if decide (o.color ≠ 0) && p.lcdc.getLsbD 1 &&
        !(p.lcdc.getLsbD 0 && decide (bg.color ≠ 0) && (bg.pri || o.bgpri)) then
      Config.rgb555ToRgba (cramColor v.objCram o.pal o.color)
    else back

/-- `Mix(p, o)` (R542). -/
def Ppu.mix (v : Video) (p : Ppu) (bg : BgPixel) (o : Option ObjPixel) : Pixel :=
  match v.params.model with
  | .dmg => p.mixDmg v bg o
  | .cgb => p.mixCgb v bg o

/-! ## One dot (R495, R503) -/

/-- What one dot of mode 3 leaves: the PPU, and the pixel written with its frame-buffer key, if any. -/
structure Mode3Out where
  ppu : Ppu
  pixel : Option (Nat × Pixel)

/-- Steps (6) and (7) of `Mode3Dot()`: `bg` was popped, `rest` is what is left of the background FIFO (R503, R510). -/
def Ppu.popPixel (v : Video) (p : Ppu) (bg : BgPixel) (rest : List BgPixel) : Mode3Out :=
  if 0 < p.pipe.discard then
    { ppu := { p with pipe := { p.pipe with bgFifo := rest, discard := p.pipe.discard - 1 } }, pixel := none }
  else
    { ppu := { p with pipe := { p.pipe with bgFifo := rest, objFifo := p.pipe.objFifo.tail, lx := p.pipe.lx + 1 } }
      pixel := some (160 * p.ly.toNat + p.pipe.lx, p.mix v bg (p.pipe.objFifo.head?.join)) }

/-- Step (4) of `Mode3Dot()`: the sprite that starts its fetch on this dot, if any (R503, R535). -/
def Ppu.spriteTrigger (p : Ppu) : Option (Sprite × List Sprite) :=
  if p.lcdc.getLsbD 1 then takeSprite p.pipe.lx p.lineSprites else none

/-- Steps (3) to (7) of `Mode3Dot()`, after the fetcher's dot (R503). -/
def Ppu.drawStep (v : Video) (p : Ppu) : Mode3Out :=
  match p.pipe.bgFifo with
  | [] => { ppu := p, pixel := none }
  | bg :: rest =>
    match p.spriteTrigger with
    | some (s, sprites) =>
      { ppu := { p with lineSprites := sprites, pipe := { p.pipe with spriteFetch := some { sprite := s, dotsLeft := 5 } } }
        pixel := none }
    | none => if p.windowTriggers v then { ppu := p.startWindow, pixel := none } else p.popPixel v bg rest

/-- Step (1) of `Mode3Dot()`: one dot of a sprite fetch in progress (R503, R536). -/
def Ppu.spriteStep (v : Video) (p : Ppu) (f : SpriteFetch) : Ppu :=
  if f.dotsLeft - 1 = 0 then
    let q := p.spriteMerge v f.sprite
    { q with pipe := { q.pipe with spriteFetch := none } }
  else { p with pipe := { p.pipe with spriteFetch := some { f with dotsLeft := f.dotsLeft - 1 } } }

/-- `Mode3Dot()` (R503). On the dot that triggers a sprite fetch the background fetcher has been stepped, as the order of
R503's pseudocode has it, step (2) before step (4); R536's prose says that it is not stepped on that dot (DESIGN CHOICE,
log entry 35). -/
def Ppu.mode3Dot (v : Video) (p : Ppu) : Mode3Out :=
  match p.pipe.spriteFetch with
  | some f => { ppu := p.spriteStep v f, pixel := none }
  | none => (p.bgFetchStep v).drawStep v

/-- The 160th pixel of the line was written on this dot: what `Mode3Dot()` returns (R503). -/
def Mode3Out.finished (o : Mode3Out) : Bool := o.pixel.isSome && decide (o.ppu.pipe.lx = 160)

/-- What one dot leaves: the PPU, the pixel written, and the events it raised. -/
structure DotOut where
  ppu : Ppu
  pixel : Option (Nat × Pixel)
  /-- `mode` went from Drawing to HBlank: the VRAM-DMA trigger of R453 -/
  hblank : Bool
  /-- `LY` became 144: the VBlank request and `frame_done` -/
  vblank : Bool
  /-- the STAT line rose: the LcdStat request -/
  stat : Bool

/-- The first part of `PpuDot()`, up to the end-of-line test (R495). -/
def Ppu.dotBody (v : Video) (p : Ppu) : DotOut :=
  match p.mode with
  | .oamScan =>
    let p := { p with dot := p.dot + 1 }
    { ppu := if p.dot = 80 then (p.oamScan v).startMode3 else p, pixel := none, hblank := false, vblank := false, stat := false }
  | .drawing =>
    let o := p.mode3Dot v
    let q := { o.ppu with dot := o.ppu.dot + 1 }
    { ppu := if o.finished then { q with mode := .hblank } else q
      pixel := o.pixel, hblank := o.finished, vblank := false, stat := false }
  | .hblank => { ppu := { p with dot := p.dot + 1 }, pixel := none, hblank := false, vblank := false, stat := false }
  | .vblank => { ppu := { p with dot := p.dot + 1 }, pixel := none, hblank := false, vblank := false, stat := false }

/-- The new line's `LY` part of `PpuDot()`, before `BeginLine()` (R495). -/
def Ppu.nextLine (p : Ppu) : Ppu :=
  let q := { p with
    dot := 0
    windowLine := if p.winActive then p.windowLine + 1 else p.windowLine
    winActive := false
    ly := p.ly + 1 }
  if q.ly = 144 then { q with mode := .vblank }
  else if q.ly = 154 then { q with ly := 0, wyReached := false, windowLine := 0 }
  else q

/-- The end-of-line part of `PpuDot()` (R495, R496). -/
def DotOut.endLine (o : DotOut) : DotOut :=
  if o.ppu.dot = Config.dotsPerLine then
    { o with ppu := o.ppu.nextLine.beginLine, vblank := decide (o.ppu.nextLine.ly = 144) }
  else o

/-- `StatUpdate()` at the end of `PpuDot()` (R491, R495). -/
def DotOut.statEnd (o : DotOut) : DotOut := { o with ppu := o.ppu.statUpdate, stat := o.ppu.statRises }

/-- `PpuDot()` (R495): nothing while the LCD is off (R486). -/
def Ppu.dotStep (v : Video) (p : Ppu) : DotOut :=
  if p.lcdOn then (p.dotBody v).endLine.statEnd
  else { ppu := p, pixel := none, hblank := false, vblank := false, stat := false }

/-- The VRAM-DMA HBlank trigger (64_vram_dma.md R453): one more block is due. -/
def VramDma.hblankTrigger (d : VramDma) (params : Params) (halted : Bool) : VramDma :=
  if params.isCgb && decide (d.mode = .hblank) && (!halted || params.hdmaRunsWhileHalted) then
    { d with stallBlocks := d.stallBlocks + 1 }
  else d

/-- The frame buffer after a dot (R487, R503). -/
def putPixel (fb : Sparse 32) : Option (Nat × Pixel) → Sparse 32
  | none => fb
  | some (k, px) => fb.write k px

/-- One dot of sub-step 4 (R110, R495). -/
def State.ppuDot (s : State) : State :=
  let o := s.ppu.dotStep s.video
  { s with
    ppu := o.ppu
    frameBuffer := putPixel s.frameBuffer o.pixel
    irq := (s.irq.requestIf o.vblank 0).requestIf o.stat 1
    vdma := if o.hblank then s.vdma.hblankTrigger s.params s.cpu.halted else s.vdma
    framesDone := if o.vblank then s.framesDone + 1 else s.framesDone }

/-- `n` dots (R110). -/
def State.ppuDots : Nat → State → State
  | 0, s => s
  | n + 1, s => State.ppuDots n s.ppuDot

/-- Sub-step 4 of every M-cycle (R110, R111). -/
def State.ppuStep (s : State) : State := State.ppuDots (Config.dotsPerMcycle s.doubleSpeed) s

end Sys2Proof.Machine
end

