-- ==== Sys2Proof/Machine/Bus.lean ====
section
/-! DEFINITION. The memory map (20_memory.md R80 to R96), the I/O registers (10_state.md R45 to R79) and the four
access functions: `rawRead` and `rawWrite`, untimed and unblocked; `cpuRead` and `cpuWrite`, what the CPU sees. -/

namespace Sys2Proof.Machine

/-! ## Address decode (R81) -/

/-- What answers an address: a cell of a memory, or a unit. -/
inductive Target where
  /-- the boot ROM overlay, offset (R84) -/
  | boot (off : Nat)
  /-- the cartridge (R86) -/
  | cart (addr : Word)
  /-- a cell of `vram` (R87) -/
  | vram (key : Nat)
  /-- a cell of `wram`, directly or through the echo (R88, R89) -/
  | wram (key : Nat)
  /-- a cell of `oam` (R90) -/
  | oam (key : Nat)
  /-- FEA0 to FEFF (R91) -/
  | unusable (addr : Word)
  /-- an I/O register, the low seven bits of its address (R92) -/
  | io (reg : Nat)
  /-- a cell of `hram` (R94) -/
  | hram (key : Nat)
  /-- IE (R79) -/
  | ie
deriving DecidableEq, Repr

/-- `Model = Cgb`. -/
def State.isCgb (s : State) : Bool := s.params.isCgb

/-- The WRAM bank at D000 to DFFF (R88): 1 on `Dmg`, `max(1, SVBK)` on `Cgb`. -/
def State.wramBank (s : State) : Nat := if s.isCgb then max 1 s.svbk.toNat else 1

/-- The VRAM bank the CPU and the VRAM-DMA engine use (R87): 0 on `Dmg`, `VBK[0]` on `Cgb`. -/
def State.vramBank (s : State) : Nat := if s.isCgb then s.ppu.vbk.toNat else 0

/-- The overlay shows the boot ROM at this address (R84). -/
def State.bootShows (s : State) (a : Nat) : Bool :=
  s.bootMapped && (decide (a < 0x100) || (s.isCgb && decide (0x200 ≤ a) && decide (a < 0x900)))

/-- The cell of `wram` behind C000 to DFFF, given the offset from C000 (R88). -/
def State.wramKey (s : State) (off : Nat) : Nat :=
  if off < 0x1000 then off else 0x1000 * s.wramBank + (off - 0x1000)

/-- The address decode of R81. -/
def State.target (s : State) (addr : Word) : Target :=
  let a := addr.toNat
  if a < 0x8000 then (if s.bootShows a then .boot a else .cart addr)
  else if a < 0xA000 then .vram (0x2000 * s.vramBank + (a - 0x8000))
  else if a < 0xC000 then .cart addr
  else if a < 0xE000 then .wram (s.wramKey (a - 0xC000))
  else if a < 0xFE00 then .wram (s.wramKey (a - 0xE000))
  else if a < 0xFEA0 then .oam (a - 0xFE00)
  else if a < 0xFF00 then .unusable addr
  else if a < 0xFF80 then .io (a - 0xFF00)
  else if a < 0xFFFF then .hram (a - 0xFF80)
  else .ie

/-! ## I/O registers (R45 to R78) -/

/-- The address belongs to the external unit `ExtIo` (R76): FF10 to FF3F and FF72 to FF75 on both models; FF56, FF76
and FF77 on `Cgb`. -/
def State.isExtIo (s : State) (reg : Nat) : Bool :=
  (decide (0x10 ≤ reg) && decide (reg ≤ 0x3F)) || (decide (0x72 ≤ reg) && decide (reg ≤ 0x75)) ||
  (s.isCgb && (reg == 0x56 || reg == 0x76 || reg == 0x77))

/-- HDMA5 as a read returns it (R71, R458): the subtraction is modulo 128. -/
def VramDma.readHdma5 (d : VramDma) : Byte :=
  bitOf (decide (d.mode ≠ .hblank)) ++ BitVec.ofNat 7 (d.remaining + 127)

/-- BCPS or OCPS as a read returns it: `{inc, 1, index}` (R72, R546). -/
def PalIndex.read (i : PalIndex) : Byte := bitOf i.inc ++ (1 : BitVec 1) ++ i.index

/-- BCPS or OCPS after a write (R72, R546). -/
def PalIndex.ofByte (v : Byte) : PalIndex := { inc := v.getLsbD 7, index := v.setWidth 6 }

/-- BCPS or OCPS after a write to the data port (R73, R546). -/
def PalIndex.bump (i : PalIndex) : PalIndex := if i.inc then { i with index := i.index + 1 } else i

/-- A register of the colour model: 0xFF on `Dmg` (R45, R92). -/
def State.cgbOnly (s : State) (v : Byte) : Byte := if s.isCgb then v else 0xFF

/-- The byte a read of I/O register FF00 + `reg` returns (R46 to R78, R92, R93). -/
def State.ioRead (s : State) (reg : Nat) : Byte :=
  match reg with
  | 0x00 => s.joypad.read s.buttons
  | 0x01 => s.serial.sb
  | 0x02 => s.serial.readSc s.params.model
  | 0x04 => s.timer.readDiv
  | 0x05 => s.timer.tima
  | 0x06 => s.timer.tma
  | 0x07 => s.timer.readTac
  | 0x0F => s.irq.readIf
  | 0x40 => s.ppu.lcdc
  | 0x41 => s.ppu.readStat
  | 0x42 => s.ppu.scy
  | 0x43 => s.ppu.scx
  | 0x44 => s.ppu.ly
  | 0x45 => s.ppu.lyc
  | 0x46 => s.oamDma.page
  | 0x47 => s.ppu.bgp
  | 0x48 => s.ppu.obp0
  | 0x49 => s.ppu.obp1
  | 0x4A => s.ppu.wy
  | 0x4B => s.ppu.wx
  | 0x4D => s.cgbOnly (byteOfBits s.doubleSpeed true true true true true true s.key1Armed)
  | 0x4F => s.cgbOnly ((0b1111111 : BitVec 7) ++ s.ppu.vbk)
  | 0x55 => s.cgbOnly s.vdma.readHdma5
  | 0x68 => s.cgbOnly s.ppu.bcps.read
  | 0x69 => s.cgbOnly (s.bgCram.read s.ppu.bcps.index.toNat)
  | 0x6A => s.cgbOnly s.ppu.ocps.read
  | 0x6B => s.cgbOnly (s.objCram.read s.ppu.ocps.index.toNat)
  | 0x6C => s.cgbOnly ((0b1111111 : BitVec 7) ++ s.ppu.opri)
  | 0x70 => s.cgbOnly ((0b11111 : BitVec 5) ++ s.svbk)
  | _ => if s.isExtIo reg then Config.extIoRead s.mcycles (0xFF00 + BitVec.ofNat 16 reg) else 0xFF

/-- `StatUpdate()` outside the dot step: after a write to STAT or LYC, and when the LCD is switched on (R491). -/
def State.statUpdate (s : State) : State :=
  { s with ppu := s.ppu.statUpdate, irq := s.irq.requestIf s.ppu.statRises 1 }

/-- A write to LCDC (R485, R486). -/
def State.writeLcdc (s : State) (v : Byte) : State :=
  let t := { s with ppu := s.ppu.storeLcdc v }
  if s.ppu.lcdcSwitchesOn v then t.statUpdate else t

/-- A write to DMA (63_oam_dma.md R431). -/
def OamDma.write (d : OamDma) (v : Byte) : OamDma :=
  { d with page := v, status := .requested, writtenThisCycle := true }

/-- A write to HDMA5 (64_vram_dma.md R452). -/
def VramDma.writeHdma5 (d : VramDma) (v : Byte) : VramDma :=
  if d.mode = .hblank ∧ v.getLsbD 7 = false then { d with mode := .idle }
  else
    let e := { d with
      src := wordOf d.hdma1 d.hdma2 &&& 0xFFF0
      dst := 0x8000 ||| (wordOf d.hdma3 d.hdma4 &&& 0x1FF0)
      remaining := (v.setWidth 7).toNat + 1 }
    if v.getLsbD 7 then { e with mode := .hblank } else { e with mode := .general, stallBlocks := e.remaining }

/-- A write to BCPD (R73, R546). -/
def State.writeBcpd (s : State) (v : Byte) : State :=
  { s with bgCram := s.bgCram.write s.ppu.bcps.index.toNat v, ppu := { s.ppu with bcps := s.ppu.bcps.bump } }

/-- A write to OCPD (R73, R546). -/
def State.writeOcpd (s : State) (v : Byte) : State :=
  { s with objCram := s.objCram.write s.ppu.ocps.index.toNat v, ppu := { s.ppu with ocps := s.ppu.ocps.bump } }

/-- A write to a register that only the colour model has; dropped on `Dmg` (R45, R92). -/
def State.cgbWrite (s : State) (t : State) : State := if s.isCgb then t else s

/-- The effect of a write to I/O register FF00 + `reg` (R46 to R78). A write to LY, to an address with no register or
to `ExtIo` changes nothing in the block (R56, R92, R93). -/
def State.ioWrite (s : State) (reg : Nat) (v : Byte) : State :=
  match reg with
  | 0x00 => { s with joypad := s.joypad.write v }
  | 0x01 => { s with serial := { s.serial with sb := v } }
  | 0x02 => { s with serial := s.serial.writeSc s.params.model v }
  | 0x04 => { s with timer := s.timer.writeDiv }
  | 0x05 => { s with timer := s.timer.writeTima v }
  | 0x06 => { s with timer := s.timer.writeTma v }
  | 0x07 => { s with timer := s.timer.writeTac v }
  | 0x0F => { s with irq := s.irq.writeIf v }
  | 0x40 => s.writeLcdc v
  | 0x41 => { s with ppu := { s.ppu with statEnable := v.extractLsb' 3 4 } }.statUpdate
  | 0x42 => { s with ppu := { s.ppu with scy := v } }
  | 0x43 => { s with ppu := { s.ppu with scx := v } }
  | 0x45 => { s with ppu := { s.ppu with lyc := v } }.statUpdate
  | 0x46 => { s with oamDma := s.oamDma.write v }
  | 0x47 => { s with ppu := { s.ppu with bgp := v } }
  | 0x48 => { s with ppu := { s.ppu with obp0 := v } }
  | 0x49 => { s with ppu := { s.ppu with obp1 := v } }
  | 0x4A => { s with ppu := { s.ppu with wy := v } }
  | 0x4B => { s with ppu := { s.ppu with wx := v } }
  | 0x4D => s.cgbWrite { s with key1Armed := v.getLsbD 0 }
  | 0x4F => s.cgbWrite { s with ppu := { s.ppu with vbk := v.setWidth 1 } }
  | 0x50 => { s with bootMapped := s.bootMapped && !v.getLsbD 0 }
  | 0x51 => s.cgbWrite { s with vdma := { s.vdma with hdma1 := v } }
  | 0x52 => s.cgbWrite { s with vdma := { s.vdma with hdma2 := v } }
  | 0x53 => s.cgbWrite { s with vdma := { s.vdma with hdma3 := v } }
  | 0x54 => s.cgbWrite { s with vdma := { s.vdma with hdma4 := v } }
  | 0x55 => s.cgbWrite { s with vdma := s.vdma.writeHdma5 v }
  | 0x68 => s.cgbWrite { s with ppu := { s.ppu with bcps := PalIndex.ofByte v } }
  | 0x69 => s.cgbWrite (s.writeBcpd v)
  | 0x6A => s.cgbWrite { s with ppu := { s.ppu with ocps := PalIndex.ofByte v } }
  | 0x6B => s.cgbWrite (s.writeOcpd v)
  | 0x6C => s.cgbWrite { s with ppu := { s.ppu with opri := v.setWidth 1 } }
  | 0x70 => s.cgbWrite { s with svbk := v.setWidth 3 }
  | _ => s

/-! ## Untimed, unblocked accesses (R94) -/

/-- `CartRead(a)` (R86): the cartridge of the test vectors answers from its ROM, and 0xFF where RAM would be. -/
def State.cartRead (s : State) (a : Word) : Byte :=
  match s.cart with
  | .noMbc rom => if a.toNat < 0x8000 then rom.read a.toNat else 0xFF
  | .other => Config.cartRead s.mcycles a

/-- What a target answers to a read. -/
def State.readTarget (s : State) : Target → Byte
  | .boot off => s.bootRom.read off
  | .cart a => s.cartRead a
  | .vram key => s.vram.read key
  | .wram key => s.wram.read key
  | .oam key => s.oam.read key
  | .unusable a => if s.isCgb then Config.unusableRead s.mcycles a else 0x00
  | .io reg => s.ioRead reg
  | .hram key => s.hram.read key
  | .ie => s.irq.ie

/-- What a write does to a target. Writes to the boot ROM and to FEA0 to FEFF are dropped (R84, R91); `CartWrite`
changes nothing in the block (R86). -/
def State.writeTarget (s : State) (v : Byte) : Target → State
  | .boot _ => s
  | .cart _ => s
  | .vram key => { s with vram := s.vram.write key v }
  | .wram key => { s with wram := s.wram.write key v }
  | .oam key => { s with oam := s.oam.write key v }
  | .unusable _ => s
  | .io reg => s.ioWrite reg v
  | .hram key => { s with hram := s.hram.write key v }
  | .ie => { s with irq := { s.irq with ie := v } }

/-- `RawRead(a)` (R94). -/
def State.rawRead (s : State) (a : Word) : Byte := s.readTarget (s.target a)

/-- `RawWrite(a, v)` (R94). -/
def State.rawWrite (s : State) (a : Word) (v : Byte) : State := s.writeTarget v (s.target a)

/-! ## What the CPU sees (R95, R96) -/

/-- The OAM-DMA engine hides this address from CPU reads: everything but FF80 to FFFF and FF0F (R95). -/
def State.dmaHidesRead (s : State) (a : Word) : Bool :=
  decide (s.oamDma.status = .active) && !(decide (0xFF80 ≤ a.toNat) || decide (a.toNat = 0xFF0F))

/-- The OAM-DMA engine makes a CPU write to this address drop: everything below FF00 (R96). -/
def State.dmaDropsWrite (s : State) (a : Word) : Bool :=
  decide (s.oamDma.status = .active) && decide (a.toNat < 0xFF00)

/-- The PPU keeps the CPU out of VRAM in mode 3 and out of OAM in modes 2 and 3 (R95, R96, R548). -/
def State.ppuBlocks (s : State) (a : Word) : Bool :=
  (decide (0x8000 ≤ a.toNat) && decide (a.toNat ≤ 0x9FFF) && decide (s.ppu.mode = .drawing)) ||
  (decide (0xFE00 ≤ a.toNat) && decide (a.toNat ≤ 0xFE9F) &&
    (decide (s.ppu.mode = .oamScan) || decide (s.ppu.mode = .drawing)))

/-- `CpuRead(a)` (R95). -/
def State.cpuRead (s : State) (a : Word) : Byte :=
  if s.dmaHidesRead a || s.ppuBlocks a then 0xFF else s.rawRead a

/-- `CpuWrite(a, v)` (R96). -/
def State.cpuWrite (s : State) (a : Word) (v : Byte) : State :=
  if s.dmaDropsWrite a || s.ppuBlocks a then s else s.rawWrite a v

end Sys2Proof.Machine
end

