-- ==== Sys2Proof/Machine/Tick.lean ====
section
/-! DEFINITION. What happens around the CPU's transaction in an M-cycle: the OAM-DMA engine (63_oam_dma.md), the
device tick in its fixed order (20_memory.md R110), and the VRAM-DMA stall (64_vram_dma.md R465, R466). -/

namespace Sys2Proof.Machine

/-! ## OAM-DMA (R432, R433) -/

/-- The source page: pages 0xE0 and above are redirected to WRAM (R433). -/
def OamDma.sourcePage (d : OamDma) : Byte := if 0xE0 ≤ d.page.toNat then d.page - 0x20 else d.page

/-- `OamDmaSource(off)` (R433). -/
def OamDma.source (d : OamDma) : Word := wordOf d.sourcePage (BitVec.ofNat 8 d.offset)

/-- `OamDmaStep()` less the copy (R432). -/
def OamDma.step (d : OamDma) : OamDma :=
  match d.status with
  | .idle => d
  | .requested => if d.writtenThisCycle then d else { d with status := .active, offset := 0 }
  | .active => { d with offset := d.offset + 1, status := if d.offset + 1 = 0xA0 then .idle else .active }

/-- Sub-step 2 of every M-cycle (R432): an active transfer copies one byte, read with `RawRead`. -/
def State.oamDmaStep (s : State) : State :=
  { s with
    oamDma := s.oamDma.step
    oam := if s.oamDma.status = .active then s.oam.write s.oamDma.offset (s.rawRead s.oamDma.source) else s.oam }

/-! ## The device tick (R110) -/

/-- Sub-step 7 and the two bookkeeping lines after it (R110). -/
def State.settle (s : State) : State :=
  { s with
    irq := s.irq.settle
    oamDma := { s.oamDma with writtenThisCycle := false }
    mcycles := s.mcycles + 1 }

/-- `DeviceTick()` (R110): sub-steps 2 to 7 in their fixed order. -/
def State.deviceTick (s : State) : State :=
  s.oamDmaStep.timerStep.ppuStep.serialStep.joypadStep.settle

/-! ## The VRAM-DMA stall (R465, R466) -/

/-- One byte of a block (R466). -/
def State.vdmaCopyByte (s : State) : State :=
  { s with
    vram := s.vram.write (0x2000 * s.vramBank + (s.vdma.dst.setWidth 13).toNat) (s.rawRead s.vdma.src)
    vdma := { s.vdma with
      src := s.vdma.src + 1
      dst := 0x8000 ||| ((s.vdma.dst + 1) &&& 0x1FFF) } }

/-- `n` bytes of a block. -/
def State.vdmaCopyBytes : Nat → State → State
  | 0, s => s
  | n + 1, s => State.vdmaCopyBytes n s.vdmaCopyByte

/-- `n` stall cycles of `k` bytes each, every one followed by a device tick (R466). -/
def State.vdmaCycles (k : Nat) : Nat → State → State
  | 0, s => s
  | n + 1, s => State.vdmaCycles k n (s.vdmaCopyBytes k).deviceTick

/-- The counters after a block (R466). -/
def VramDma.blockDone (d : VramDma) : VramDma :=
  let e := { d with remaining := d.remaining - 1, stallBlocks := d.stallBlocks - 1 }
  if e.remaining = 0 then { e with mode := .idle, stallBlocks := 0 } else e

/-- `VdmaBlock()` (R466): 16 bytes, at the speed the block began with. -/
def State.vdmaBlock (s : State) : State :=
  let t := State.vdmaCycles (Config.gdmaBytesPerCycle s.doubleSpeed) (Config.gdmaMcyclesPerBlock s.doubleSpeed) s
  { t with vdma := t.vdma.blockDone }

/-- `while vdma_stall_blocks > 0: VdmaBlock()` (R465), at most `n` blocks. -/
def State.vdmaBlocks : Nat → State → State
  | 0, s => s
  | n + 1, s => if s.vdma.stallBlocks = 0 then s else State.vdmaBlocks n s.vdmaBlock

/-- `StallCheck()` (R465, R468): before every M-cycle of the CPU, on `Cgb`. Each block lowers `vdma_remaining` by one
and the last one clears `vdma_stall_blocks`, so `remaining + 1` blocks always end the loop. -/
def State.stallCheck (s : State) : State :=
  if s.isCgb then State.vdmaBlocks (s.vdma.remaining + 1) s else s

end Sys2Proof.Machine
end

