-- ==== Sys2Proof/Machine/Ops.lean ====
section
/-! DEFINITION. The named operations every meaning is written with: the CPU's registers, the three M-cycle primitives,
fetching, the stack, taking an interrupt and returning from one (00_scope.md R11 to R13, 60_exceptions.md R347 to
R354). -/

namespace Sys2Proof.Machine

/-- The outcome of a meaning, of dispatch and of a step. -/
abbrev Result := Host.Outcome State Fault Refusal

/-! ## CPU registers (R21 to R27): every update of a CPU register goes through these -/

def State.setPc (s : State) (v : Word) : State := { s with cpu := { s.cpu with pc := v } }
def State.setSp (s : State) (v : Word) : State := { s with cpu := { s.cpu with sp := v } }
def State.setA (s : State) (v : Byte) : State := { s with cpu := { s.cpu with a := v } }
def State.setFlags (s : State) (f : Flags) : State := { s with cpu := { s.cpu with f := f } }
def State.setIme (s : State) (i : Ime) : State := { s with cpu := { s.cpu with ime := i } }
def State.setHalted (s : State) (h : Bool) : State := { s with cpu := { s.cpu with halted := h } }
def State.setHaltBug (s : State) (h : Bool) : State := { s with cpu := { s.cpu with haltBugPending := h } }

/-- `HL` (R22). -/
def Cpu.hl (c : Cpu) : Word := wordOf c.h c.l
/-- `BC` (R22). -/
def Cpu.bc (c : Cpu) : Word := wordOf c.b c.c
/-- `DE` (R22). -/
def Cpu.de (c : Cpu) : Word := wordOf c.d c.e

/-- A write to `HL` (R22). -/
def State.setHl (s : State) (v : Word) : State := { s with cpu := { s.cpu with h := hiByte v, l := loByte v } }

/-! ## The three M-cycles (R12, R97, R110) -/

/-- One entry of the bus trace (R97). -/
def State.log (s : State) (e : BusEvent) : State := { s with trace := e :: s.trace }

/-- `Idle()` (R12): the stall check, then one M-cycle with no transaction. -/
def State.idle (s : State) : State := (s.stallCheck.log .idle).deviceTick

/-- The value `MemRead(addr, 1)` returns (R12): what the CPU sees after the stall check, before the device tick. -/
def State.memReadValue (s : State) (a : Word) : Byte := s.stallCheck.cpuRead a

/-- The state after `MemRead(addr, 1)` (R12). -/
def State.memReadState (s : State) (a : Word) : State :=
  (s.stallCheck.log (.read a (s.memReadValue a))).deviceTick

/-- `MemRead(addr, 1)` (R12): the value and the state after it. -/
def State.memRead (s : State) (a : Word) : Byte × State := (s.memReadValue a, s.memReadState a)

/-- `MemWrite(addr, 1, v)` (R12). The trace has the value the CPU drove, also when the write was dropped (R97). -/
def State.memWrite (s : State) (a : Word) (v : Byte) : State :=
  ((s.stallCheck.cpuWrite a v).log (.write a v)).deviceTick

/-- `n` times `Idle()`. -/
def State.idles : Nat → State → State
  | 0, s => s
  | n + 1, s => State.idles n s.idle

/-! ## Fetching (R13, R141) -/

/-- `Fetch8()` (R13). -/
def State.fetch8 (s : State) : Byte × State :=
  (s.memReadValue s.cpu.pc, (s.memReadState s.cpu.pc).setPc (s.cpu.pc + 1))

/-- The opcode's `Fetch8()` (R141). With `halt_bug_pending` it does not advance PC, once (R321 (c)). -/
def State.fetchOpcode (s : State) : Byte × State :=
  if s.cpu.haltBugPending then
    (s.memReadValue s.cpu.pc, (s.memReadState s.cpu.pc).setHaltBug false)
  else s.fetch8

/-! ## The stack (R13, R24) -/

/-- `Push16(v)` (R13): high byte at SP − 1, then low byte at SP − 2. -/
def State.push16 (s : State) (v : Word) : State :=
  let s1 := s.setSp (s.cpu.sp - 1)
  let s2 := s1.memWrite s1.cpu.sp (hiByte v)
  let s3 := s2.setSp (s2.cpu.sp - 1)
  s3.memWrite s3.cpu.sp (loByte v)

/-- `Pop16()` (R13): low byte at SP, then high byte at SP + 1. -/
def State.pop16 (s : State) : Word × State :=
  let (lo, s1) := s.memRead s.cpu.sp
  let s2 := s1.setSp (s1.cpu.sp + 1)
  let (hi, s3) := s2.memRead s2.cpu.sp
  (wordOf hi lo, s3.setSp (s3.cpu.sp + 1))

/-! ## Interrupts: entry and return (R348 to R354) -/

/-- The handler address of source `i` (R348). -/
def vector (i : Nat) : Word := BitVec.ofNat 16 (0x0040 + 8 * i)

/-- The four M-cycles of `Dispatch()` (R351): two idle ones, then the push of PC. -/
def State.dispatchCycles (s : State) : State := s.idle.idle.push16 s.cpu.pc

/-- The end of `Dispatch()` (R351): clear the chosen bit of IF, jump to its vector, disable interrupts. -/
def State.enterHandler (s : State) (i : Nat) : State :=
  ({ s with irq := { s.irq with flags := s.irq.flags &&& ~~~ irqBit i } }.setPc (vector i)).setIme .disabled

/-- `Dispatch()` (R351): taking an interrupt. The source is chosen after the pushes; if none is left, the fault of
R353. -/
def State.takeInterrupt (s : State) : Result :=
  let t := s.dispatchCycles
  if t.irq.pending = 0 then .fault .irqVanished else .next (t.enterHandler (lowestIrq t.irq.pending))

/-- The return from an interrupt (R311, R354): pop PC, one idle M-cycle, `IME <- Enabled` at once. -/
def State.returnFromInterrupt (s : State) : State :=
  let (v, s1) := s.pop16
  ((s1.setPc v).idle).setIme .enabled

/-! ## The ends of a CPU step (R350) -/

/-- What a step begins with: the buttons the host holds during it (R411, log entry 8), and an empty bus trace
(log entry 9). -/
def State.beginStep (s : State) : State :=
  match s.inputs with
  | [] => { s with trace := [] }
  | b :: rest => { s with trace := [], buttons := b, inputs := rest }

/-- The promotion of `IME` at the end of an instruction (R347, R350). -/
def State.promoteIme (s : State) (wasPending : Bool) : State :=
  if wasPending && decide (s.cpu.ime = .pending) then s.setIme .enabled else s

/-- The check at the end of a step (R350): an enabled request ends a halt and, with `IME` enabled, is dispatched. -/
def State.endStep (s : State) : Result :=
  if s.irq.pending = 0 then .next s
  else if s.cpu.ime = .enabled then (s.setHalted false).takeInterrupt
  else .next (s.setHalted false)

end Sys2Proof.Machine
end

