-- ==== Sys2Proof/Machine/Operands.lean ====
section
/-! DEFINITION. Every operand form (00_scope.md R11; 30_encoding.md R143, R144): registers, pairs, conditions,
addresses, and the operation an instruction's field selects. -/

namespace Sys2Proof.Machine

/-! ## 8-bit registers: `r8[v]` less `(HL)` -/

/-- The value of an 8-bit register (R11, R143). -/
def Cpu.reg (c : Cpu) : Reg → Byte
  | .b => c.b
  | .c => c.c
  | .d => c.d
  | .e => c.e
  | .h => c.h
  | .l => c.l
  | .a => c.a

/-- The CPU with `v` written to an 8-bit register (R11). -/
def Cpu.withReg (c : Cpu) (r : Reg) (v : Byte) : Cpu :=
  match r with
  | .b => { c with b := v }
  | .c => { c with c := v }
  | .d => { c with d := v }
  | .e => { c with e := v }
  | .h => { c with h := v }
  | .l => { c with l := v }
  | .a => { c with a := v }

def State.reg (s : State) (r : Reg) : Byte := s.cpu.reg r
def State.setReg (s : State) (r : Reg) (v : Byte) : State := { s with cpu := s.cpu.withReg r v }

/-! ## Pairs: `r16[v]` and `r16stk[v]`, high register first (R11, R22) -/

/-- The value of `r16[v]`. -/
def Cpu.pair (c : Cpu) : Pair → Word
  | .bc => c.bc
  | .de => c.de
  | .hl => c.hl
  | .sp => c.sp

/-- The CPU with `v` written to `r16[v]`. -/
def Cpu.withPair (c : Cpu) (p : Pair) (v : Word) : Cpu :=
  match p with
  | .bc => { c with b := hiByte v, c := loByte v }
  | .de => { c with d := hiByte v, e := loByte v }
  | .hl => { c with h := hiByte v, l := loByte v }
  | .sp => { c with sp := v }

def State.pair (s : State) (p : Pair) : Word := s.cpu.pair p
def State.setPair (s : State) (p : Pair) (v : Word) : State := { s with cpu := s.cpu.withPair p v }

/-- The value of `r16stk[v]`; the low byte of `AF` has bits 3..0 zero (R23). -/
def Cpu.stkPair (c : Cpu) : StkPair → Word
  | .bc => c.bc
  | .de => c.de
  | .hl => c.hl
  | .af => wordOf c.a c.f.toByte

/-- The CPU with `v` written to `r16stk[v]`; bits 3..0 of a value written to `AF` are discarded (R11, R23). -/
def Cpu.withStkPair (c : Cpu) (p : StkPair) (v : Word) : Cpu :=
  match p with
  | .bc => { c with b := hiByte v, c := loByte v }
  | .de => { c with d := hiByte v, e := loByte v }
  | .hl => { c with h := hiByte v, l := loByte v }
  | .af => { c with a := hiByte v, f := Flags.ofByte (loByte v) }

def State.stkPair (s : State) (p : StkPair) : Word := s.cpu.stkPair p
def State.setStkPair (s : State) (p : StkPair) (v : Word) : State := { s with cpu := s.cpu.withStkPair p v }

/-! ## Conditions and addresses -/

/-- `cc[v]` (R143, R300). -/
def condHolds (f : Flags) : Cond → Bool
  | .nz => !f.z
  | .z => f.z
  | .nc => !f.c
  | .c => f.c

/-- The address `0xFF00 + n` of an `LDH` form (R144). -/
def highPage (n : Byte) : Word := 0xFF00 + zext16 n

/-- The target of a relative jump, from the address after the displacement (R144). -/
def relTarget (pc : Word) (e : Byte) : Word := pc + sext16 e

/-! ## The operation a field selects (R143) -/

/-- `alu[v]` of the accumulator, the operand and the carry (R210 to R234). `CP` leaves the accumulator. -/
def aluRun (op : AluOp) (a b : Byte) (c : Bool) : AluOut :=
  match op with
  | .add => add8 a b false
  | .adc => add8 a b c
  | .sub => sub8 a b false
  | .sbc => sub8 a b c
  | .and => and8 a b
  | .xor => xor8 a b
  | .or => or8 a b
  | .cp => { val := a, flags := (sub8 a b false).flags }

/-- `rot[v]` of a byte and the carry: the result and the carry out (R260). -/
def rotRun (op : RotOp) (v : Byte) (c : Bool) : Byte × Bool :=
  match op with
  | .rlc => rlc v
  | .rrc => rrc v
  | .rl => rl v c
  | .rr => rr v c
  | .sla => sla v
  | .sra => sra v
  | .swap => swap v
  | .srl => srl v

/-! ## The fields of `op2` (R142, R152) -/

/-- `r8[v]`: the register, or none for 6, which is `(HL)` (R143). -/
def regOfField (v : BitVec 3) : Option Reg :=
  match v.toNat with
  | 0 => some .b
  | 1 => some .c
  | 2 => some .d
  | 3 => some .e
  | 4 => some .h
  | 5 => some .l
  | 6 => none
  | _ => some .a

/-- `rot[v]` (R143). -/
def rotOfField (v : BitVec 3) : RotOp :=
  match v.toNat with
  | 0 => .rlc
  | 1 => .rrc
  | 2 => .rl
  | 3 => .rr
  | 4 => .sla
  | 5 => .sra
  | 6 => .swap
  | _ => .srl

/-- A bit index (R143). -/
def ixOfField (v : BitVec 3) : Ix :=
  match v.toNat with
  | 0 => .i0
  | 1 => .i1
  | 2 => .i2
  | 3 => .i3
  | 4 => .i4
  | 5 => .i5
  | 6 => .i6
  | _ => .i7

end Sys2Proof.Machine
end

