-- ==== Sys2Proof/Machine/Alu16.lean ====
section
/-! DEFINITION. 16-bit arithmetic (43_alu16.md R250 to R253). -/

namespace Sys2Proof.Machine

/-! ## Shared operations -/

/-- `ADD HL,rr` (R250). -/
def State.addHl (p : Pair) (s : State) : State :=
  (s.idle.setHl (s.cpu.hl + s.pair p)).setFlags (addHlFlags s.cpu.hl (s.pair p) s.cpu.f)

/-- `INC rr` (R251). -/
def State.incPair (p : Pair) (s : State) : State := s.idle.setPair p (s.pair p + 1)

/-- `DEC rr` (R252). -/
def State.decPair (p : Pair) (s : State) : State := s.idle.setPair p (s.pair p - 1)

/-- `ADD SP,e` (R253). -/
def State.addSp (e : Byte) (s : State) : State :=
  (s.idle.idle.setSp (s.cpu.sp + sext16 e)).setFlags (addSpFlags s.cpu.sp e)

/-! ## Meanings -/

/-- 03 `INC BC` (R251). -/
def execIncBC (s : State) : Result := .next (s.incPair .bc)

/-- 09 `ADD HL,BC` (R250). -/
def execAddHLBC (s : State) : Result := .next (s.addHl .bc)

/-- 0B `DEC BC` (R252). -/
def execDecBC (s : State) : Result := .next (s.decPair .bc)

/-- 13 `INC DE` (R251). -/
def execIncDE (s : State) : Result := .next (s.incPair .de)

/-- 19 `ADD HL,DE` (R250). -/
def execAddHLDE (s : State) : Result := .next (s.addHl .de)

/-- 1B `DEC DE` (R252). -/
def execDecDE (s : State) : Result := .next (s.decPair .de)

/-- 23 `INC HL` (R251). -/
def execIncHL (s : State) : Result := .next (s.incPair .hl)

/-- 29 `ADD HL,HL` (R250). -/
def execAddHLHL (s : State) : Result := .next (s.addHl .hl)

/-- 2B `DEC HL` (R252). -/
def execDecHL (s : State) : Result := .next (s.decPair .hl)

/-- 33 `INC SP` (R251). -/
def execIncSP (s : State) : Result := .next (s.incPair .sp)

/-- 39 `ADD HL,SP` (R250). -/
def execAddHLSP (s : State) : Result := .next (s.addHl .sp)

/-- 3B `DEC SP` (R252). -/
def execDecSP (s : State) : Result := .next (s.decPair .sp)

/-- E8 `ADD SP,e` (R253). -/
def execAddSPe (e : Byte) (s : State) : Result := .next (s.addSp e)

end Sys2Proof.Machine
end

