-- ==== Sys2Proof/Machine/Alu8.lean ====
section
/-! DEFINITION. 8-bit arithmetic and logic (42_alu8.md R210 to R242). -/

namespace Sys2Proof.Machine

/-! ## Shared operations -/

/-- A result with its flags, written to `A` and `F`. -/
def State.putA (o : AluOut) (s : State) : State := (s.setA o.val).setFlags o.flags

/-- One of the eight accumulator operations with operand `b` (R210 to R234). -/
def State.alu (op : AluOp) (b : Byte) (s : State) : State := s.putA (aluRun op s.cpu.a b s.cpu.f.c)

/-- The register form. -/
def State.aluReg (op : AluOp) (r : Reg) (s : State) : State := s.alu op (s.reg r)

/-- The `(HL)` form: the operand is read first. -/
def State.aluMem (op : AluOp) (s : State) : State := (s.memReadState s.cpu.hl).alu op (s.memReadValue s.cpu.hl)

/-- A result with its flags, written to a register and `F`. -/
def State.putReg (r : Reg) (o : AluOut) (s : State) : State := (s.setReg r o.val).setFlags o.flags

/-- A result with its flags, written to the byte at HL and to `F`, after the byte was read (R236, R238). -/
def State.putMem (o : AluOut) (s : State) : State := ((s.memReadState s.cpu.hl).memWrite s.cpu.hl o.val).setFlags o.flags

/-- `INC r` (R235). -/
def State.incReg (r : Reg) (s : State) : State := s.putReg r (inc8 (s.reg r) s.cpu.f)

/-- `DEC r` (R237). -/
def State.decReg (r : Reg) (s : State) : State := s.putReg r (dec8 (s.reg r) s.cpu.f)

/-- `INC (HL)` (R236). -/
def State.incMem (s : State) : State := s.putMem (inc8 (s.memReadValue s.cpu.hl) s.cpu.f)

/-- `DEC (HL)` (R238). -/
def State.decMem (s : State) : State := s.putMem (dec8 (s.memReadValue s.cpu.hl) s.cpu.f)

/-! ## Meanings -/

/-- 04 `INC B` (R235). -/
def execIncB (s : State) : Result := .next (s.incReg .b)

/-- 05 `DEC B` (R237). -/
def execDecB (s : State) : Result := .next (s.decReg .b)

/-- 0C `INC C` (R235). -/
def execIncC (s : State) : Result := .next (s.incReg .c)

/-- 0D `DEC C` (R237). -/
def execDecC (s : State) : Result := .next (s.decReg .c)

/-- 14 `INC D` (R235). -/
def execIncD (s : State) : Result := .next (s.incReg .d)

/-- 15 `DEC D` (R237). -/
def execDecD (s : State) : Result := .next (s.decReg .d)

/-- 1C `INC E` (R235). -/
def execIncE (s : State) : Result := .next (s.incReg .e)

/-- 1D `DEC E` (R237). -/
def execDecE (s : State) : Result := .next (s.decReg .e)

/-- 24 `INC H` (R235). -/
def execIncH (s : State) : Result := .next (s.incReg .h)

/-- 25 `DEC H` (R237). -/
def execDecH (s : State) : Result := .next (s.decReg .h)

/-- 27 `DAA` (R239). -/
def execDaa (s : State) : Result := .next (s.putA (daa s.cpu.a s.cpu.f))

/-- 2C `INC L` (R235). -/
def execIncL (s : State) : Result := .next (s.incReg .l)

/-- 2D `DEC L` (R237). -/
def execDecL (s : State) : Result := .next (s.decReg .l)

/-- 2F `CPL` (R240). -/
def execCpl (s : State) : Result := .next (s.putA (cpl s.cpu.a s.cpu.f))

/-- 34 `INC (HL)` (R236). -/
def execIncMemHL (s : State) : Result := .next s.incMem

/-- 35 `DEC (HL)` (R238). -/
def execDecMemHL (s : State) : Result := .next s.decMem

/-- 37 `SCF` (R241). -/
def execScf (s : State) : Result := .next (s.setFlags (scf s.cpu.f))

/-- 3C `INC A` (R235). -/
def execIncA (s : State) : Result := .next (s.incReg .a)

/-- 3D `DEC A` (R237). -/
def execDecA (s : State) : Result := .next (s.decReg .a)

/-- 3F `CCF` (R242). -/
def execCcf (s : State) : Result := .next (s.setFlags (ccf s.cpu.f))

/-- 80 `ADD A,B` (R211). -/
def execAddAB (s : State) : Result := .next (s.aluReg .add .b)

/-- 81 `ADD A,C` (R211). -/
def execAddAC (s : State) : Result := .next (s.aluReg .add .c)

/-- 82 `ADD A,D` (R211). -/
def execAddAD (s : State) : Result := .next (s.aluReg .add .d)

/-- 83 `ADD A,E` (R211). -/
def execAddAE (s : State) : Result := .next (s.aluReg .add .e)

/-- 84 `ADD A,H` (R211). -/
def execAddAH (s : State) : Result := .next (s.aluReg .add .h)

/-- 85 `ADD A,L` (R211). -/
def execAddAL (s : State) : Result := .next (s.aluReg .add .l)

/-- 86 `ADD A,(HL)` (R212). -/
def execAddAMemHL (s : State) : Result := .next (s.aluMem .add)

/-- 87 `ADD A,A` (R211). -/
def execAddAA (s : State) : Result := .next (s.aluReg .add .a)

/-- 88 `ADC A,B` (R214). -/
def execAdcAB (s : State) : Result := .next (s.aluReg .adc .b)

/-- 89 `ADC A,C` (R214). -/
def execAdcAC (s : State) : Result := .next (s.aluReg .adc .c)

/-- 8A `ADC A,D` (R214). -/
def execAdcAD (s : State) : Result := .next (s.aluReg .adc .d)

/-- 8B `ADC A,E` (R214). -/
def execAdcAE (s : State) : Result := .next (s.aluReg .adc .e)

/-- 8C `ADC A,H` (R214). -/
def execAdcAH (s : State) : Result := .next (s.aluReg .adc .h)

/-- 8D `ADC A,L` (R214). -/
def execAdcAL (s : State) : Result := .next (s.aluReg .adc .l)

/-- 8E `ADC A,(HL)` (R215). -/
def execAdcAMemHL (s : State) : Result := .next (s.aluMem .adc)

/-- 8F `ADC A,A` (R214). -/
def execAdcAA (s : State) : Result := .next (s.aluReg .adc .a)

/-- 90 `SUB B` (R217). -/
def execSubB (s : State) : Result := .next (s.aluReg .sub .b)

/-- 91 `SUB C` (R217). -/
def execSubC (s : State) : Result := .next (s.aluReg .sub .c)

/-- 92 `SUB D` (R217). -/
def execSubD (s : State) : Result := .next (s.aluReg .sub .d)

/-- 93 `SUB E` (R217). -/
def execSubE (s : State) : Result := .next (s.aluReg .sub .e)

/-- 94 `SUB H` (R217). -/
def execSubH (s : State) : Result := .next (s.aluReg .sub .h)

/-- 95 `SUB L` (R217). -/
def execSubL (s : State) : Result := .next (s.aluReg .sub .l)

/-- 96 `SUB (HL)` (R218). -/
def execSubMemHL (s : State) : Result := .next (s.aluMem .sub)

/-- 97 `SUB A` (R217). -/
def execSubA (s : State) : Result := .next (s.aluReg .sub .a)

/-- 98 `SBC A,B` (R220). -/
def execSbcAB (s : State) : Result := .next (s.aluReg .sbc .b)

/-- 99 `SBC A,C` (R220). -/
def execSbcAC (s : State) : Result := .next (s.aluReg .sbc .c)

/-- 9A `SBC A,D` (R220). -/
def execSbcAD (s : State) : Result := .next (s.aluReg .sbc .d)

/-- 9B `SBC A,E` (R220). -/
def execSbcAE (s : State) : Result := .next (s.aluReg .sbc .e)

/-- 9C `SBC A,H` (R220). -/
def execSbcAH (s : State) : Result := .next (s.aluReg .sbc .h)

/-- 9D `SBC A,L` (R220). -/
def execSbcAL (s : State) : Result := .next (s.aluReg .sbc .l)

/-- 9E `SBC A,(HL)` (R221). -/
def execSbcAMemHL (s : State) : Result := .next (s.aluMem .sbc)

/-- 9F `SBC A,A` (R220). -/
def execSbcAA (s : State) : Result := .next (s.aluReg .sbc .a)

/-- A0 `AND B` (R223). -/
def execAndB (s : State) : Result := .next (s.aluReg .and .b)

/-- A1 `AND C` (R223). -/
def execAndC (s : State) : Result := .next (s.aluReg .and .c)

/-- A2 `AND D` (R223). -/
def execAndD (s : State) : Result := .next (s.aluReg .and .d)

/-- A3 `AND E` (R223). -/
def execAndE (s : State) : Result := .next (s.aluReg .and .e)

/-- A4 `AND H` (R223). -/
def execAndH (s : State) : Result := .next (s.aluReg .and .h)

/-- A5 `AND L` (R223). -/
def execAndL (s : State) : Result := .next (s.aluReg .and .l)

/-- A6 `AND (HL)` (R224). -/
def execAndMemHL (s : State) : Result := .next (s.aluMem .and)

/-- A7 `AND A` (R223). -/
def execAndA (s : State) : Result := .next (s.aluReg .and .a)

/-- A8 `XOR B` (R226). -/
def execXorB (s : State) : Result := .next (s.aluReg .xor .b)

/-- A9 `XOR C` (R226). -/
def execXorC (s : State) : Result := .next (s.aluReg .xor .c)

/-- AA `XOR D` (R226). -/
def execXorD (s : State) : Result := .next (s.aluReg .xor .d)

/-- AB `XOR E` (R226). -/
def execXorE (s : State) : Result := .next (s.aluReg .xor .e)

/-- AC `XOR H` (R226). -/
def execXorH (s : State) : Result := .next (s.aluReg .xor .h)

/-- AD `XOR L` (R226). -/
def execXorL (s : State) : Result := .next (s.aluReg .xor .l)

/-- AE `XOR (HL)` (R227). -/
def execXorMemHL (s : State) : Result := .next (s.aluMem .xor)

/-- AF `XOR A` (R226). -/
def execXorA (s : State) : Result := .next (s.aluReg .xor .a)

/-- B0 `OR B` (R229). -/
def execOrB (s : State) : Result := .next (s.aluReg .or .b)

/-- B1 `OR C` (R229). -/
def execOrC (s : State) : Result := .next (s.aluReg .or .c)

/-- B2 `OR D` (R229). -/
def execOrD (s : State) : Result := .next (s.aluReg .or .d)

/-- B3 `OR E` (R229). -/
def execOrE (s : State) : Result := .next (s.aluReg .or .e)

/-- B4 `OR H` (R229). -/
def execOrH (s : State) : Result := .next (s.aluReg .or .h)

/-- B5 `OR L` (R229). -/
def execOrL (s : State) : Result := .next (s.aluReg .or .l)

/-- B6 `OR (HL)` (R230). -/
def execOrMemHL (s : State) : Result := .next (s.aluMem .or)

/-- B7 `OR A` (R229). -/
def execOrA (s : State) : Result := .next (s.aluReg .or .a)

/-- B8 `CP B` (R232). -/
def execCpB (s : State) : Result := .next (s.aluReg .cp .b)

/-- B9 `CP C` (R232). -/
def execCpC (s : State) : Result := .next (s.aluReg .cp .c)

/-- BA `CP D` (R232). -/
def execCpD (s : State) : Result := .next (s.aluReg .cp .d)

/-- BB `CP E` (R232). -/
def execCpE (s : State) : Result := .next (s.aluReg .cp .e)

/-- BC `CP H` (R232). -/
def execCpH (s : State) : Result := .next (s.aluReg .cp .h)

/-- BD `CP L` (R232). -/
def execCpL (s : State) : Result := .next (s.aluReg .cp .l)

/-- BE `CP (HL)` (R233). -/
def execCpMemHL (s : State) : Result := .next (s.aluMem .cp)

/-- BF `CP A` (R232). -/
def execCpA (s : State) : Result := .next (s.aluReg .cp .a)

/-- C6 `ADD A,n` (R213). -/
def execAddAn (n : Byte) (s : State) : Result := .next (s.alu .add n)

/-- CE `ADC A,n` (R216). -/
def execAdcAn (n : Byte) (s : State) : Result := .next (s.alu .adc n)

/-- D6 `SUB n` (R219). -/
def execSubn (n : Byte) (s : State) : Result := .next (s.alu .sub n)

/-- DE `SBC A,n` (R222). -/
def execSbcAn (n : Byte) (s : State) : Result := .next (s.alu .sbc n)

/-- E6 `AND n` (R225). -/
def execAndn (n : Byte) (s : State) : Result := .next (s.alu .and n)

/-- EE `XOR n` (R228). -/
def execXorn (n : Byte) (s : State) : Result := .next (s.alu .xor n)

/-- F6 `OR n` (R231). -/
def execOrn (n : Byte) (s : State) : Result := .next (s.alu .or n)

/-- FE `CP n` (R234). -/
def execCpn (n : Byte) (s : State) : Result := .next (s.alu .cp n)

end Sys2Proof.Machine
end

