-- ==== Sys2Proof/Machine/ControlFlow.lean ====
section
/-! DEFINITION. Control flow (45_control_flow.md R300 to R311). PC already points past the instruction (R300); a
conditional form has fetched its operand bytes whether or not it is taken. -/

namespace Sys2Proof.Machine

/-! ## Shared operations -/

/-- `Idle(); PC <- v` (R301, R304). -/
def State.jump (v : Word) (s : State) : State := s.idle.setPc v

/-- `Idle(); Push16(PC); PC <- v` (R306, R310). -/
def State.call (v : Word) (s : State) : State := (s.idle.push16 s.cpu.pc).setPc v

/-- `PC <- Pop16(); Idle()` (R308). -/
def State.ret (s : State) : State := (s.pop16.2.setPc s.pop16.1).idle

/-- `f` if the condition holds of the flags (R300). -/
def State.onCond (cc : Cond) (f : State → State) (s : State) : State := if condHolds s.cpu.f cc then f s else s

/-- `Idle(); if cc: PC <- Pop16(); Idle()` (R309): the first idle M-cycle is always spent. -/
def State.retCond (cc : Cond) (s : State) : State := s.idle.onCond cc State.ret

/-- `RST 8·y` (R310). -/
def State.rst (y : Ix) (s : State) : State := s.call (BitVec.ofNat 16 (8 * y.toNat))

/-! ## Meanings -/

/-- 18 `JR e` (R304). -/
def execJre (e : Byte) (s : State) : Result := .next (s.jump (relTarget s.cpu.pc e))

/-- 20 `JR NZ,e` (R305). -/
def execJrNZe (e : Byte) (s : State) : Result := .next (s.onCond .nz (State.jump (relTarget s.cpu.pc e)))

/-- 28 `JR Z,e` (R305). -/
def execJrZe (e : Byte) (s : State) : Result := .next (s.onCond .z (State.jump (relTarget s.cpu.pc e)))

/-- 30 `JR NC,e` (R305). -/
def execJrNCe (e : Byte) (s : State) : Result := .next (s.onCond .nc (State.jump (relTarget s.cpu.pc e)))

/-- 38 `JR C,e` (R305). -/
def execJrCe (e : Byte) (s : State) : Result := .next (s.onCond .c (State.jump (relTarget s.cpu.pc e)))

/-- C0 `RET NZ` (R309). -/
def execRetNZ (s : State) : Result := .next (s.retCond .nz)

/-- C2 `JP NZ,nn` (R302). -/
def execJpNZnn (nn : Word) (s : State) : Result := .next (s.onCond .nz (State.jump nn))

/-- C3 `JP nn` (R301). -/
def execJpnn (nn : Word) (s : State) : Result := .next (s.jump nn)

/-- C4 `CALL NZ,nn` (R307). -/
def execCallNZnn (nn : Word) (s : State) : Result := .next (s.onCond .nz (State.call nn))

/-- C7 `RST 0x00` (R310). -/
def execRst00 (s : State) : Result := .next (s.rst .i0)

/-- C8 `RET Z` (R309). -/
def execRetZ (s : State) : Result := .next (s.retCond .z)

/-- C9 `RET` (R308). -/
def execRet (s : State) : Result := .next s.ret

/-- CA `JP Z,nn` (R302). -/
def execJpZnn (nn : Word) (s : State) : Result := .next (s.onCond .z (State.jump nn))

/-- CC `CALL Z,nn` (R307). -/
def execCallZnn (nn : Word) (s : State) : Result := .next (s.onCond .z (State.call nn))

/-- CD `CALL nn` (R306). -/
def execCallnn (nn : Word) (s : State) : Result := .next (s.call nn)

/-- CF `RST 0x08` (R310). -/
def execRst08 (s : State) : Result := .next (s.rst .i1)

/-- D0 `RET NC` (R309). -/
def execRetNC (s : State) : Result := .next (s.retCond .nc)

/-- D2 `JP NC,nn` (R302). -/
def execJpNCnn (nn : Word) (s : State) : Result := .next (s.onCond .nc (State.jump nn))

/-- D4 `CALL NC,nn` (R307). -/
def execCallNCnn (nn : Word) (s : State) : Result := .next (s.onCond .nc (State.call nn))

/-- D7 `RST 0x10` (R310). -/
def execRst10 (s : State) : Result := .next (s.rst .i2)

/-- D8 `RET C` (R309). -/
def execRetC (s : State) : Result := .next (s.retCond .c)

/-- D9 `RETI` (R311). -/
def execReti (s : State) : Result := .next s.returnFromInterrupt

/-- DA `JP C,nn` (R302). -/
def execJpCnn (nn : Word) (s : State) : Result := .next (s.onCond .c (State.jump nn))

/-- DC `CALL C,nn` (R307). -/
def execCallCnn (nn : Word) (s : State) : Result := .next (s.onCond .c (State.call nn))

/-- DF `RST 0x18` (R310). -/
def execRst18 (s : State) : Result := .next (s.rst .i3)

/-- E7 `RST 0x20` (R310). -/
def execRst20 (s : State) : Result := .next (s.rst .i4)

/-- E9 `JP HL` (R303). -/
def execJpHL (s : State) : Result := .next (s.setPc s.cpu.hl)

/-- EF `RST 0x28` (R310). -/
def execRst28 (s : State) : Result := .next (s.rst .i5)

/-- F7 `RST 0x30` (R310). -/
def execRst30 (s : State) : Result := .next (s.rst .i6)

/-- FF `RST 0x38` (R310). -/
def execRst38 (s : State) : Result := .next (s.rst .i7)

end Sys2Proof.Machine
end

