-- ==== Sys2Proof/Machine/RotShiftBit.lean ====
section
/-! DEFINITION. Rotates, shifts, `SWAP` and the bit instructions (44_rotate_shift_bit.md R260 to R286). -/

namespace Sys2Proof.Machine

/-! ## Shared operations -/

/-- An accumulator rotate: `Z` is cleared whatever the result (R261 to R264). -/
def State.rotA (op : RotOp) (s : State) : State :=
  (s.setA (rotRun op s.cpu.a s.cpu.f.c).1).setFlags (rotAFlags (rotRun op s.cpu.a s.cpu.f.c))

/-- `rot r` (R265 to R279). -/
def State.rotReg (op : RotOp) (r : Reg) (s : State) : State :=
  (s.setReg r (rotRun op (s.reg r) s.cpu.f.c).1).setFlags (rotFlags (rotRun op (s.reg r) s.cpu.f.c))

/-- Replace the byte at HL by `f` of it: a read and a write M-cycle (R266, R284, R286). -/
def State.modifyMem (f : Byte → Byte) (s : State) : State :=
  (s.memReadState s.cpu.hl).memWrite s.cpu.hl (f (s.memReadValue s.cpu.hl))

/-- `rot (HL)` (R266 to R280). -/
def State.rotMem (op : RotOp) (s : State) : State :=
  (s.modifyMem fun v => (rotRun op v s.cpu.f.c).1).setFlags (rotFlags (rotRun op (s.memReadValue s.cpu.hl) s.cpu.f.c))

/-- `BIT b,r` (R281). -/
def State.testReg (b : Ix) (r : Reg) (s : State) : State := s.setFlags (bitFlags (s.reg r) b.toNat s.cpu.f)

/-- `BIT b,(HL)` (R282): no write. -/
def State.testMem (b : Ix) (s : State) : State :=
  (s.memReadState s.cpu.hl).setFlags (bitFlags (s.memReadValue s.cpu.hl) b.toNat s.cpu.f)

/-- `RES b,r` (R283). -/
def State.resReg (b : Ix) (r : Reg) (s : State) : State := s.setReg r (resBit (s.reg r) b.toNat)

/-- `RES b,(HL)` (R284). -/
def State.resMem (b : Ix) (s : State) : State := s.modifyMem fun v => resBit v b.toNat

/-- `SET b,r` (R285). -/
def State.setBitReg (b : Ix) (r : Reg) (s : State) : State := s.setReg r (setBit (s.reg r) b.toNat)

/-- `SET b,(HL)` (R286). -/
def State.setBitMem (b : Ix) (s : State) : State := s.modifyMem fun v => setBit v b.toNat

/-- What the CB table does for `op2`, by its fields `x2`, `y2`, `z2` (R152). -/
def State.runCb (op2 : Byte) (s : State) : State :=
  let y := op2.extractLsb' 3 3
  match (op2.extractLsb' 6 2).toNat, regOfField (op2.extractLsb' 0 3) with
  | 0, some r => s.rotReg (rotOfField y) r
  | 0, none => s.rotMem (rotOfField y)
  | 1, some r => s.testReg (ixOfField y) r
  | 1, none => s.testMem (ixOfField y)
  | 2, some r => s.resReg (ixOfField y) r
  | 2, none => s.resMem (ixOfField y)
  | _, some r => s.setBitReg (ixOfField y) r
  | _, none => s.setBitMem (ixOfField y)

/-! ## Meanings -/

/-- 07 `RLCA` (R261). -/
def execRlca (s : State) : Result := .next (s.rotA .rlc)

/-- 0F `RRCA` (R262). -/
def execRrca (s : State) : Result := .next (s.rotA .rrc)

/-- 17 `RLA` (R263). -/
def execRla (s : State) : Result := .next (s.rotA .rl)

/-- 1F `RRA` (R264). -/
def execRra (s : State) : Result := .next (s.rotA .rr)

/-- CB 00 `RLC B` (R265). -/
def execRlcB (s : State) : Result := .next (s.rotReg .rlc .b)

/-- CB 01 `RLC C` (R265). -/
def execRlcC (s : State) : Result := .next (s.rotReg .rlc .c)

/-- CB 02 `RLC D` (R265). -/
def execRlcD (s : State) : Result := .next (s.rotReg .rlc .d)

/-- CB 03 `RLC E` (R265). -/
def execRlcE (s : State) : Result := .next (s.rotReg .rlc .e)

/-- CB 04 `RLC H` (R265). -/
def execRlcH (s : State) : Result := .next (s.rotReg .rlc .h)

/-- CB 05 `RLC L` (R265). -/
def execRlcL (s : State) : Result := .next (s.rotReg .rlc .l)

/-- CB 06 `RLC (HL)` (R266). -/
def execRlcMemHL (s : State) : Result := .next (s.rotMem .rlc)

/-- CB 07 `RLC A` (R265). -/
def execRlcA (s : State) : Result := .next (s.rotReg .rlc .a)

/-- CB 08 `RRC B` (R267). -/
def execRrcB (s : State) : Result := .next (s.rotReg .rrc .b)

/-- CB 09 `RRC C` (R267). -/
def execRrcC (s : State) : Result := .next (s.rotReg .rrc .c)

/-- CB 0A `RRC D` (R267). -/
def execRrcD (s : State) : Result := .next (s.rotReg .rrc .d)

/-- CB 0B `RRC E` (R267). -/
def execRrcE (s : State) : Result := .next (s.rotReg .rrc .e)

/-- CB 0C `RRC H` (R267). -/
def execRrcH (s : State) : Result := .next (s.rotReg .rrc .h)

/-- CB 0D `RRC L` (R267). -/
def execRrcL (s : State) : Result := .next (s.rotReg .rrc .l)

/-- CB 0E `RRC (HL)` (R268). -/
def execRrcMemHL (s : State) : Result := .next (s.rotMem .rrc)

/-- CB 0F `RRC A` (R267). -/
def execRrcA (s : State) : Result := .next (s.rotReg .rrc .a)

/-- CB 10 `RL B` (R269). -/
def execRlB (s : State) : Result := .next (s.rotReg .rl .b)

/-- CB 11 `RL C` (R269). -/
def execRlC (s : State) : Result := .next (s.rotReg .rl .c)

/-- CB 12 `RL D` (R269). -/
def execRlD (s : State) : Result := .next (s.rotReg .rl .d)

/-- CB 13 `RL E` (R269). -/
def execRlE (s : State) : Result := .next (s.rotReg .rl .e)

/-- CB 14 `RL H` (R269). -/
def execRlH (s : State) : Result := .next (s.rotReg .rl .h)

/-- CB 15 `RL L` (R269). -/
def execRlL (s : State) : Result := .next (s.rotReg .rl .l)

/-- CB 16 `RL (HL)` (R270). -/
def execRlMemHL (s : State) : Result := .next (s.rotMem .rl)

/-- CB 17 `RL A` (R269). -/
def execRlA (s : State) : Result := .next (s.rotReg .rl .a)

/-- CB 18 `RR B` (R271). -/
def execRrB (s : State) : Result := .next (s.rotReg .rr .b)

/-- CB 19 `RR C` (R271). -/
def execRrC (s : State) : Result := .next (s.rotReg .rr .c)

/-- CB 1A `RR D` (R271). -/
def execRrD (s : State) : Result := .next (s.rotReg .rr .d)

/-- CB 1B `RR E` (R271). -/
def execRrE (s : State) : Result := .next (s.rotReg .rr .e)

/-- CB 1C `RR H` (R271). -/
def execRrH (s : State) : Result := .next (s.rotReg .rr .h)

/-- CB 1D `RR L` (R271). -/
def execRrL (s : State) : Result := .next (s.rotReg .rr .l)

/-- CB 1E `RR (HL)` (R272). -/
def execRrMemHL (s : State) : Result := .next (s.rotMem .rr)

/-- CB 1F `RR A` (R271). -/
def execRrA (s : State) : Result := .next (s.rotReg .rr .a)

/-- CB 20 `SLA B` (R273). -/
def execSlaB (s : State) : Result := .next (s.rotReg .sla .b)

/-- CB 21 `SLA C` (R273). -/
def execSlaC (s : State) : Result := .next (s.rotReg .sla .c)

/-- CB 22 `SLA D` (R273). -/
def execSlaD (s : State) : Result := .next (s.rotReg .sla .d)

/-- CB 23 `SLA E` (R273). -/
def execSlaE (s : State) : Result := .next (s.rotReg .sla .e)

/-- CB 24 `SLA H` (R273). -/
def execSlaH (s : State) : Result := .next (s.rotReg .sla .h)

/-- CB 25 `SLA L` (R273). -/
def execSlaL (s : State) : Result := .next (s.rotReg .sla .l)

/-- CB 26 `SLA (HL)` (R274). -/
def execSlaMemHL (s : State) : Result := .next (s.rotMem .sla)

/-- CB 27 `SLA A` (R273). -/
def execSlaA (s : State) : Result := .next (s.rotReg .sla .a)

/-- CB 28 `SRA B` (R275). -/
def execSraB (s : State) : Result := .next (s.rotReg .sra .b)

/-- CB 29 `SRA C` (R275). -/
def execSraC (s : State) : Result := .next (s.rotReg .sra .c)

/-- CB 2A `SRA D` (R275). -/
def execSraD (s : State) : Result := .next (s.rotReg .sra .d)

/-- CB 2B `SRA E` (R275). -/
def execSraE (s : State) : Result := .next (s.rotReg .sra .e)

/-- CB 2C `SRA H` (R275). -/
def execSraH (s : State) : Result := .next (s.rotReg .sra .h)

/-- CB 2D `SRA L` (R275). -/
def execSraL (s : State) : Result := .next (s.rotReg .sra .l)

/-- CB 2E `SRA (HL)` (R276). -/
def execSraMemHL (s : State) : Result := .next (s.rotMem .sra)

/-- CB 2F `SRA A` (R275). -/
def execSraA (s : State) : Result := .next (s.rotReg .sra .a)

/-- CB 30 `SWAP B` (R277). -/
def execSwapB (s : State) : Result := .next (s.rotReg .swap .b)

/-- CB 31 `SWAP C` (R277). -/
def execSwapC (s : State) : Result := .next (s.rotReg .swap .c)

/-- CB 32 `SWAP D` (R277). -/
def execSwapD (s : State) : Result := .next (s.rotReg .swap .d)

/-- CB 33 `SWAP E` (R277). -/
def execSwapE (s : State) : Result := .next (s.rotReg .swap .e)

/-- CB 34 `SWAP H` (R277). -/
def execSwapH (s : State) : Result := .next (s.rotReg .swap .h)

/-- CB 35 `SWAP L` (R277). -/
def execSwapL (s : State) : Result := .next (s.rotReg .swap .l)

/-- CB 36 `SWAP (HL)` (R278). -/
def execSwapMemHL (s : State) : Result := .next (s.rotMem .swap)

/-- CB 37 `SWAP A` (R277). -/
def execSwapA (s : State) : Result := .next (s.rotReg .swap .a)

/-- CB 38 `SRL B` (R279). -/
def execSrlB (s : State) : Result := .next (s.rotReg .srl .b)

/-- CB 39 `SRL C` (R279). -/
def execSrlC (s : State) : Result := .next (s.rotReg .srl .c)

/-- CB 3A `SRL D` (R279). -/
def execSrlD (s : State) : Result := .next (s.rotReg .srl .d)

/-- CB 3B `SRL E` (R279). -/
def execSrlE (s : State) : Result := .next (s.rotReg .srl .e)

/-- CB 3C `SRL H` (R279). -/
def execSrlH (s : State) : Result := .next (s.rotReg .srl .h)

/-- CB 3D `SRL L` (R279). -/
def execSrlL (s : State) : Result := .next (s.rotReg .srl .l)

/-- CB 3E `SRL (HL)` (R280). -/
def execSrlMemHL (s : State) : Result := .next (s.rotMem .srl)

/-- CB 3F `SRL A` (R279). -/
def execSrlA (s : State) : Result := .next (s.rotReg .srl .a)

/-- CB 40 `BIT 0,B` (R281). -/
def execBit0B (s : State) : Result := .next (s.testReg .i0 .b)

/-- CB 41 `BIT 0,C` (R281). -/
def execBit0C (s : State) : Result := .next (s.testReg .i0 .c)

/-- CB 42 `BIT 0,D` (R281). -/
def execBit0D (s : State) : Result := .next (s.testReg .i0 .d)

/-- CB 43 `BIT 0,E` (R281). -/
def execBit0E (s : State) : Result := .next (s.testReg .i0 .e)

/-- CB 44 `BIT 0,H` (R281). -/
def execBit0H (s : State) : Result := .next (s.testReg .i0 .h)

/-- CB 45 `BIT 0,L` (R281). -/
def execBit0L (s : State) : Result := .next (s.testReg .i0 .l)

/-- CB 46 `BIT 0,(HL)` (R282). -/
def execBit0MemHL (s : State) : Result := .next (s.testMem .i0)

/-- CB 47 `BIT 0,A` (R281). -/
def execBit0A (s : State) : Result := .next (s.testReg .i0 .a)

/-- CB 48 `BIT 1,B` (R281). -/
def execBit1B (s : State) : Result := .next (s.testReg .i1 .b)

/-- CB 49 `BIT 1,C` (R281). -/
def execBit1C (s : State) : Result := .next (s.testReg .i1 .c)

/-- CB 4A `BIT 1,D` (R281). -/
def execBit1D (s : State) : Result := .next (s.testReg .i1 .d)

/-- CB 4B `BIT 1,E` (R281). -/
def execBit1E (s : State) : Result := .next (s.testReg .i1 .e)

/-- CB 4C `BIT 1,H` (R281). -/
def execBit1H (s : State) : Result := .next (s.testReg .i1 .h)

/-- CB 4D `BIT 1,L` (R281). -/
def execBit1L (s : State) : Result := .next (s.testReg .i1 .l)

/-- CB 4E `BIT 1,(HL)` (R282). -/
def execBit1MemHL (s : State) : Result := .next (s.testMem .i1)

/-- CB 4F `BIT 1,A` (R281). -/
def execBit1A (s : State) : Result := .next (s.testReg .i1 .a)

/-- CB 50 `BIT 2,B` (R281). -/
def execBit2B (s : State) : Result := .next (s.testReg .i2 .b)

/-- CB 51 `BIT 2,C` (R281). -/
def execBit2C (s : State) : Result := .next (s.testReg .i2 .c)

/-- CB 52 `BIT 2,D` (R281). -/
def execBit2D (s : State) : Result := .next (s.testReg .i2 .d)

/-- CB 53 `BIT 2,E` (R281). -/
def execBit2E (s : State) : Result := .next (s.testReg .i2 .e)

/-- CB 54 `BIT 2,H` (R281). -/
def execBit2H (s : State) : Result := .next (s.testReg .i2 .h)

/-- CB 55 `BIT 2,L` (R281). -/
def execBit2L (s : State) : Result := .next (s.testReg .i2 .l)

/-- CB 56 `BIT 2,(HL)` (R282). -/
def execBit2MemHL (s : State) : Result := .next (s.testMem .i2)

/-- CB 57 `BIT 2,A` (R281). -/
def execBit2A (s : State) : Result := .next (s.testReg .i2 .a)

/-- CB 58 `BIT 3,B` (R281). -/
def execBit3B (s : State) : Result := .next (s.testReg .i3 .b)

/-- CB 59 `BIT 3,C` (R281). -/
def execBit3C (s : State) : Result := .next (s.testReg .i3 .c)

/-- CB 5A `BIT 3,D` (R281). -/
def execBit3D (s : State) : Result := .next (s.testReg .i3 .d)

/-- CB 5B `BIT 3,E` (R281). -/
def execBit3E (s : State) : Result := .next (s.testReg .i3 .e)

/-- CB 5C `BIT 3,H` (R281). -/
def execBit3H (s : State) : Result := .next (s.testReg .i3 .h)

/-- CB 5D `BIT 3,L` (R281). -/
def execBit3L (s : State) : Result := .next (s.testReg .i3 .l)

/-- CB 5E `BIT 3,(HL)` (R282). -/
def execBit3MemHL (s : State) : Result := .next (s.testMem .i3)

/-- CB 5F `BIT 3,A` (R281). -/
def execBit3A (s : State) : Result := .next (s.testReg .i3 .a)

/-- CB 60 `BIT 4,B` (R281). -/
def execBit4B (s : State) : Result := .next (s.testReg .i4 .b)

/-- CB 61 `BIT 4,C` (R281). -/
def execBit4C (s : State) : Result := .next (s.testReg .i4 .c)

/-- CB 62 `BIT 4,D` (R281). -/
def execBit4D (s : State) : Result := .next (s.testReg .i4 .d)

/-- CB 63 `BIT 4,E` (R281). -/
def execBit4E (s : State) : Result := .next (s.testReg .i4 .e)

/-- CB 64 `BIT 4,H` (R281). -/
def execBit4H (s : State) : Result := .next (s.testReg .i4 .h)

/-- CB 65 `BIT 4,L` (R281). -/
def execBit4L (s : State) : Result := .next (s.testReg .i4 .l)

/-- CB 66 `BIT 4,(HL)` (R282). -/
def execBit4MemHL (s : State) : Result := .next (s.testMem .i4)

/-- CB 67 `BIT 4,A` (R281). -/
def execBit4A (s : State) : Result := .next (s.testReg .i4 .a)

/-- CB 68 `BIT 5,B` (R281). -/
def execBit5B (s : State) : Result := .next (s.testReg .i5 .b)

/-- CB 69 `BIT 5,C` (R281). -/
def execBit5C (s : State) : Result := .next (s.testReg .i5 .c)

/-- CB 6A `BIT 5,D` (R281). -/
def execBit5D (s : State) : Result := .next (s.testReg .i5 .d)

/-- CB 6B `BIT 5,E` (R281). -/
def execBit5E (s : State) : Result := .next (s.testReg .i5 .e)

/-- CB 6C `BIT 5,H` (R281). -/
def execBit5H (s : State) : Result := .next (s.testReg .i5 .h)

/-- CB 6D `BIT 5,L` (R281). -/
def execBit5L (s : State) : Result := .next (s.testReg .i5 .l)

/-- CB 6E `BIT 5,(HL)` (R282). -/
def execBit5MemHL (s : State) : Result := .next (s.testMem .i5)

/-- CB 6F `BIT 5,A` (R281). -/
def execBit5A (s : State) : Result := .next (s.testReg .i5 .a)

/-- CB 70 `BIT 6,B` (R281). -/
def execBit6B (s : State) : Result := .next (s.testReg .i6 .b)

/-- CB 71 `BIT 6,C` (R281). -/
def execBit6C (s : State) : Result := .next (s.testReg .i6 .c)

/-- CB 72 `BIT 6,D` (R281). -/
def execBit6D (s : State) : Result := .next (s.testReg .i6 .d)

/-- CB 73 `BIT 6,E` (R281). -/
def execBit6E (s : State) : Result := .next (s.testReg .i6 .e)

/-- CB 74 `BIT 6,H` (R281). -/
def execBit6H (s : State) : Result := .next (s.testReg .i6 .h)

/-- CB 75 `BIT 6,L` (R281). -/
def execBit6L (s : State) : Result := .next (s.testReg .i6 .l)

/-- CB 76 `BIT 6,(HL)` (R282). -/
def execBit6MemHL (s : State) : Result := .next (s.testMem .i6)

/-- CB 77 `BIT 6,A` (R281). -/
def execBit6A (s : State) : Result := .next (s.testReg .i6 .a)

/-- CB 78 `BIT 7,B` (R281). -/
def execBit7B (s : State) : Result := .next (s.testReg .i7 .b)

/-- CB 79 `BIT 7,C` (R281). -/
def execBit7C (s : State) : Result := .next (s.testReg .i7 .c)

/-- CB 7A `BIT 7,D` (R281). -/
def execBit7D (s : State) : Result := .next (s.testReg .i7 .d)

/-- CB 7B `BIT 7,E` (R281). -/
def execBit7E (s : State) : Result := .next (s.testReg .i7 .e)

/-- CB 7C `BIT 7,H` (R281). -/
def execBit7H (s : State) : Result := .next (s.testReg .i7 .h)

/-- CB 7D `BIT 7,L` (R281). -/
def execBit7L (s : State) : Result := .next (s.testReg .i7 .l)

/-- CB 7E `BIT 7,(HL)` (R282). -/
def execBit7MemHL (s : State) : Result := .next (s.testMem .i7)

/-- CB 7F `BIT 7,A` (R281). -/
def execBit7A (s : State) : Result := .next (s.testReg .i7 .a)

/-- CB 80 `RES 0,B` (R283). -/
def execRes0B (s : State) : Result := .next (s.resReg .i0 .b)

/-- CB 81 `RES 0,C` (R283). -/
def execRes0C (s : State) : Result := .next (s.resReg .i0 .c)

/-- CB 82 `RES 0,D` (R283). -/
def execRes0D (s : State) : Result := .next (s.resReg .i0 .d)

/-- CB 83 `RES 0,E` (R283). -/
def execRes0E (s : State) : Result := .next (s.resReg .i0 .e)

/-- CB 84 `RES 0,H` (R283). -/
def execRes0H (s : State) : Result := .next (s.resReg .i0 .h)

/-- CB 85 `RES 0,L` (R283). -/
def execRes0L (s : State) : Result := .next (s.resReg .i0 .l)

/-- CB 86 `RES 0,(HL)` (R284). -/
def execRes0MemHL (s : State) : Result := .next (s.resMem .i0)

/-- CB 87 `RES 0,A` (R283). -/
def execRes0A (s : State) : Result := .next (s.resReg .i0 .a)

/-- CB 88 `RES 1,B` (R283). -/
def execRes1B (s : State) : Result := .next (s.resReg .i1 .b)

/-- CB 89 `RES 1,C` (R283). -/
def execRes1C (s : State) : Result := .next (s.resReg .i1 .c)

/-- CB 8A `RES 1,D` (R283). -/
def execRes1D (s : State) : Result := .next (s.resReg .i1 .d)

/-- CB 8B `RES 1,E` (R283). -/
def execRes1E (s : State) : Result := .next (s.resReg .i1 .e)

/-- CB 8C `RES 1,H` (R283). -/
def execRes1H (s : State) : Result := .next (s.resReg .i1 .h)

/-- CB 8D `RES 1,L` (R283). -/
def execRes1L (s : State) : Result := .next (s.resReg .i1 .l)

/-- CB 8E `RES 1,(HL)` (R284). -/
def execRes1MemHL (s : State) : Result := .next (s.resMem .i1)

/-- CB 8F `RES 1,A` (R283). -/
def execRes1A (s : State) : Result := .next (s.resReg .i1 .a)

/-- CB 90 `RES 2,B` (R283). -/
def execRes2B (s : State) : Result := .next (s.resReg .i2 .b)

/-- CB 91 `RES 2,C` (R283). -/
def execRes2C (s : State) : Result := .next (s.resReg .i2 .c)

/-- CB 92 `RES 2,D` (R283). -/
def execRes2D (s : State) : Result := .next (s.resReg .i2 .d)

/-- CB 93 `RES 2,E` (R283). -/
def execRes2E (s : State) : Result := .next (s.resReg .i2 .e)

/-- CB 94 `RES 2,H` (R283). -/
def execRes2H (s : State) : Result := .next (s.resReg .i2 .h)

/-- CB 95 `RES 2,L` (R283). -/
def execRes2L (s : State) : Result := .next (s.resReg .i2 .l)

/-- CB 96 `RES 2,(HL)` (R284). -/
def execRes2MemHL (s : State) : Result := .next (s.resMem .i2)

/-- CB 97 `RES 2,A` (R283). -/
def execRes2A (s : State) : Result := .next (s.resReg .i2 .a)

/-- CB 98 `RES 3,B` (R283). -/
def execRes3B (s : State) : Result := .next (s.resReg .i3 .b)

/-- CB 99 `RES 3,C` (R283). -/
def execRes3C (s : State) : Result := .next (s.resReg .i3 .c)

/-- CB 9A `RES 3,D` (R283). -/
def execRes3D (s : State) : Result := .next (s.resReg .i3 .d)

/-- CB 9B `RES 3,E` (R283). -/
def execRes3E (s : State) : Result := .next (s.resReg .i3 .e)

/-- CB 9C `RES 3,H` (R283). -/
def execRes3H (s : State) : Result := .next (s.resReg .i3 .h)

/-- CB 9D `RES 3,L` (R283). -/
def execRes3L (s : State) : Result := .next (s.resReg .i3 .l)

/-- CB 9E `RES 3,(HL)` (R284). -/
def execRes3MemHL (s : State) : Result := .next (s.resMem .i3)

/-- CB 9F `RES 3,A` (R283). -/
def execRes3A (s : State) : Result := .next (s.resReg .i3 .a)

/-- CB A0 `RES 4,B` (R283). -/
def execRes4B (s : State) : Result := .next (s.resReg .i4 .b)

/-- CB A1 `RES 4,C` (R283). -/
def execRes4C (s : State) : Result := .next (s.resReg .i4 .c)

/-- CB A2 `RES 4,D` (R283). -/
def execRes4D (s : State) : Result := .next (s.resReg .i4 .d)

/-- CB A3 `RES 4,E` (R283). -/
def execRes4E (s : State) : Result := .next (s.resReg .i4 .e)

/-- CB A4 `RES 4,H` (R283). -/
def execRes4H (s : State) : Result := .next (s.resReg .i4 .h)

/-- CB A5 `RES 4,L` (R283). -/
def execRes4L (s : State) : Result := .next (s.resReg .i4 .l)

/-- CB A6 `RES 4,(HL)` (R284). -/
def execRes4MemHL (s : State) : Result := .next (s.resMem .i4)

/-- CB A7 `RES 4,A` (R283). -/
def execRes4A (s : State) : Result := .next (s.resReg .i4 .a)

/-- CB A8 `RES 5,B` (R283). -/
def execRes5B (s : State) : Result := .next (s.resReg .i5 .b)

/-- CB A9 `RES 5,C` (R283). -/
def execRes5C (s : State) : Result := .next (s.resReg .i5 .c)

/-- CB AA `RES 5,D` (R283). -/
def execRes5D (s : State) : Result := .next (s.resReg .i5 .d)

/-- CB AB `RES 5,E` (R283). -/
def execRes5E (s : State) : Result := .next (s.resReg .i5 .e)

/-- CB AC `RES 5,H` (R283). -/
def execRes5H (s : State) : Result := .next (s.resReg .i5 .h)

/-- CB AD `RES 5,L` (R283). -/
def execRes5L (s : State) : Result := .next (s.resReg .i5 .l)

/-- CB AE `RES 5,(HL)` (R284). -/
def execRes5MemHL (s : State) : Result := .next (s.resMem .i5)

/-- CB AF `RES 5,A` (R283). -/
def execRes5A (s : State) : Result := .next (s.resReg .i5 .a)

/-- CB B0 `RES 6,B` (R283). -/
def execRes6B (s : State) : Result := .next (s.resReg .i6 .b)

/-- CB B1 `RES 6,C` (R283). -/
def execRes6C (s : State) : Result := .next (s.resReg .i6 .c)

/-- CB B2 `RES 6,D` (R283). -/
def execRes6D (s : State) : Result := .next (s.resReg .i6 .d)

/-- CB B3 `RES 6,E` (R283). -/
def execRes6E (s : State) : Result := .next (s.resReg .i6 .e)

/-- CB B4 `RES 6,H` (R283). -/
def execRes6H (s : State) : Result := .next (s.resReg .i6 .h)

/-- CB B5 `RES 6,L` (R283). -/
def execRes6L (s : State) : Result := .next (s.resReg .i6 .l)

/-- CB B6 `RES 6,(HL)` (R284). -/
def execRes6MemHL (s : State) : Result := .next (s.resMem .i6)

/-- CB B7 `RES 6,A` (R283). -/
def execRes6A (s : State) : Result := .next (s.resReg .i6 .a)

/-- CB B8 `RES 7,B` (R283). -/
def execRes7B (s : State) : Result := .next (s.resReg .i7 .b)

/-- CB B9 `RES 7,C` (R283). -/
def execRes7C (s : State) : Result := .next (s.resReg .i7 .c)

/-- CB BA `RES 7,D` (R283). -/
def execRes7D (s : State) : Result := .next (s.resReg .i7 .d)

/-- CB BB `RES 7,E` (R283). -/
def execRes7E (s : State) : Result := .next (s.resReg .i7 .e)

/-- CB BC `RES 7,H` (R283). -/
def execRes7H (s : State) : Result := .next (s.resReg .i7 .h)

/-- CB BD `RES 7,L` (R283). -/
def execRes7L (s : State) : Result := .next (s.resReg .i7 .l)

/-- CB BE `RES 7,(HL)` (R284). -/
def execRes7MemHL (s : State) : Result := .next (s.resMem .i7)

/-- CB BF `RES 7,A` (R283). -/
def execRes7A (s : State) : Result := .next (s.resReg .i7 .a)

/-- CB C0 `SET 0,B` (R285). -/
def execSet0B (s : State) : Result := .next (s.setBitReg .i0 .b)

/-- CB C1 `SET 0,C` (R285). -/
def execSet0C (s : State) : Result := .next (s.setBitReg .i0 .c)

/-- CB C2 `SET 0,D` (R285). -/
def execSet0D (s : State) : Result := .next (s.setBitReg .i0 .d)

/-- CB C3 `SET 0,E` (R285). -/
def execSet0E (s : State) : Result := .next (s.setBitReg .i0 .e)

/-- CB C4 `SET 0,H` (R285). -/
def execSet0H (s : State) : Result := .next (s.setBitReg .i0 .h)

/-- CB C5 `SET 0,L` (R285). -/
def execSet0L (s : State) : Result := .next (s.setBitReg .i0 .l)

/-- CB C6 `SET 0,(HL)` (R286). -/
def execSet0MemHL (s : State) : Result := .next (s.setBitMem .i0)

/-- CB C7 `SET 0,A` (R285). -/
def execSet0A (s : State) : Result := .next (s.setBitReg .i0 .a)

/-- CB C8 `SET 1,B` (R285). -/
def execSet1B (s : State) : Result := .next (s.setBitReg .i1 .b)

/-- CB C9 `SET 1,C` (R285). -/
def execSet1C (s : State) : Result := .next (s.setBitReg .i1 .c)

/-- CB CA `SET 1,D` (R285). -/
def execSet1D (s : State) : Result := .next (s.setBitReg .i1 .d)

/-- CB CB `SET 1,E` (R285). -/
def execSet1E (s : State) : Result := .next (s.setBitReg .i1 .e)

/-- CB CC `SET 1,H` (R285). -/
def execSet1H (s : State) : Result := .next (s.setBitReg .i1 .h)

/-- CB CD `SET 1,L` (R285). -/
def execSet1L (s : State) : Result := .next (s.setBitReg .i1 .l)

/-- CB CE `SET 1,(HL)` (R286). -/
def execSet1MemHL (s : State) : Result := .next (s.setBitMem .i1)

/-- CB CF `SET 1,A` (R285). -/
def execSet1A (s : State) : Result := .next (s.setBitReg .i1 .a)

/-- CB D0 `SET 2,B` (R285). -/
def execSet2B (s : State) : Result := .next (s.setBitReg .i2 .b)

/-- CB D1 `SET 2,C` (R285). -/
def execSet2C (s : State) : Result := .next (s.setBitReg .i2 .c)

/-- CB D2 `SET 2,D` (R285). -/
def execSet2D (s : State) : Result := .next (s.setBitReg .i2 .d)

/-- CB D3 `SET 2,E` (R285). -/
def execSet2E (s : State) : Result := .next (s.setBitReg .i2 .e)

/-- CB D4 `SET 2,H` (R285). -/
def execSet2H (s : State) : Result := .next (s.setBitReg .i2 .h)

/-- CB D5 `SET 2,L` (R285). -/
def execSet2L (s : State) : Result := .next (s.setBitReg .i2 .l)

/-- CB D6 `SET 2,(HL)` (R286). -/
def execSet2MemHL (s : State) : Result := .next (s.setBitMem .i2)

/-- CB D7 `SET 2,A` (R285). -/
def execSet2A (s : State) : Result := .next (s.setBitReg .i2 .a)

/-- CB D8 `SET 3,B` (R285). -/
def execSet3B (s : State) : Result := .next (s.setBitReg .i3 .b)

/-- CB D9 `SET 3,C` (R285). -/
def execSet3C (s : State) : Result := .next (s.setBitReg .i3 .c)

/-- CB DA `SET 3,D` (R285). -/
def execSet3D (s : State) : Result := .next (s.setBitReg .i3 .d)

/-- CB DB `SET 3,E` (R285). -/
def execSet3E (s : State) : Result := .next (s.setBitReg .i3 .e)

/-- CB DC `SET 3,H` (R285). -/
def execSet3H (s : State) : Result := .next (s.setBitReg .i3 .h)

/-- CB DD `SET 3,L` (R285). -/
def execSet3L (s : State) : Result := .next (s.setBitReg .i3 .l)

/-- CB DE `SET 3,(HL)` (R286). -/
def execSet3MemHL (s : State) : Result := .next (s.setBitMem .i3)

/-- CB DF `SET 3,A` (R285). -/
def execSet3A (s : State) : Result := .next (s.setBitReg .i3 .a)

/-- CB E0 `SET 4,B` (R285). -/
def execSet4B (s : State) : Result := .next (s.setBitReg .i4 .b)

/-- CB E1 `SET 4,C` (R285). -/
def execSet4C (s : State) : Result := .next (s.setBitReg .i4 .c)

/-- CB E2 `SET 4,D` (R285). -/
def execSet4D (s : State) : Result := .next (s.setBitReg .i4 .d)

/-- CB E3 `SET 4,E` (R285). -/
def execSet4E (s : State) : Result := .next (s.setBitReg .i4 .e)

/-- CB E4 `SET 4,H` (R285). -/
def execSet4H (s : State) : Result := .next (s.setBitReg .i4 .h)

/-- CB E5 `SET 4,L` (R285). -/
def execSet4L (s : State) : Result := .next (s.setBitReg .i4 .l)

/-- CB E6 `SET 4,(HL)` (R286). -/
def execSet4MemHL (s : State) : Result := .next (s.setBitMem .i4)

/-- CB E7 `SET 4,A` (R285). -/
def execSet4A (s : State) : Result := .next (s.setBitReg .i4 .a)

/-- CB E8 `SET 5,B` (R285). -/
def execSet5B (s : State) : Result := .next (s.setBitReg .i5 .b)

/-- CB E9 `SET 5,C` (R285). -/
def execSet5C (s : State) : Result := .next (s.setBitReg .i5 .c)

/-- CB EA `SET 5,D` (R285). -/
def execSet5D (s : State) : Result := .next (s.setBitReg .i5 .d)

/-- CB EB `SET 5,E` (R285). -/
def execSet5E (s : State) : Result := .next (s.setBitReg .i5 .e)

/-- CB EC `SET 5,H` (R285). -/
def execSet5H (s : State) : Result := .next (s.setBitReg .i5 .h)

/-- CB ED `SET 5,L` (R285). -/
def execSet5L (s : State) : Result := .next (s.setBitReg .i5 .l)

/-- CB EE `SET 5,(HL)` (R286). -/
def execSet5MemHL (s : State) : Result := .next (s.setBitMem .i5)

/-- CB EF `SET 5,A` (R285). -/
def execSet5A (s : State) : Result := .next (s.setBitReg .i5 .a)

/-- CB F0 `SET 6,B` (R285). -/
def execSet6B (s : State) : Result := .next (s.setBitReg .i6 .b)

/-- CB F1 `SET 6,C` (R285). -/
def execSet6C (s : State) : Result := .next (s.setBitReg .i6 .c)

/-- CB F2 `SET 6,D` (R285). -/
def execSet6D (s : State) : Result := .next (s.setBitReg .i6 .d)

/-- CB F3 `SET 6,E` (R285). -/
def execSet6E (s : State) : Result := .next (s.setBitReg .i6 .e)

/-- CB F4 `SET 6,H` (R285). -/
def execSet6H (s : State) : Result := .next (s.setBitReg .i6 .h)

/-- CB F5 `SET 6,L` (R285). -/
def execSet6L (s : State) : Result := .next (s.setBitReg .i6 .l)

/-- CB F6 `SET 6,(HL)` (R286). -/
def execSet6MemHL (s : State) : Result := .next (s.setBitMem .i6)

/-- CB F7 `SET 6,A` (R285). -/
def execSet6A (s : State) : Result := .next (s.setBitReg .i6 .a)

/-- CB F8 `SET 7,B` (R285). -/
def execSet7B (s : State) : Result := .next (s.setBitReg .i7 .b)

/-- CB F9 `SET 7,C` (R285). -/
def execSet7C (s : State) : Result := .next (s.setBitReg .i7 .c)

/-- CB FA `SET 7,D` (R285). -/
def execSet7D (s : State) : Result := .next (s.setBitReg .i7 .d)

/-- CB FB `SET 7,E` (R285). -/
def execSet7E (s : State) : Result := .next (s.setBitReg .i7 .e)

/-- CB FC `SET 7,H` (R285). -/
def execSet7H (s : State) : Result := .next (s.setBitReg .i7 .h)

/-- CB FD `SET 7,L` (R285). -/
def execSet7L (s : State) : Result := .next (s.setBitReg .i7 .l)

/-- CB FE `SET 7,(HL)` (R286). -/
def execSet7MemHL (s : State) : Result := .next (s.setBitMem .i7)

/-- CB FF `SET 7,A` (R285). -/
def execSet7A (s : State) : Result := .next (s.setBitReg .i7 .a)

end Sys2Proof.Machine
end

