-- ==== Sys2Proof/Machine/CpuControl.lean ====
section
/-! DEFINITION. CPU control (46_cpu_control.md R320 to R326): `NOP`, `HALT`, `STOP`, `DI`, `EI`, the `CB` prefix and
the eleven illegal bytes. -/

namespace Sys2Proof.Machine

/-! ## Shared operations -/

/-- `HALT` (R321): with `HALT_BUG`, when a request is pending and `IME` is not enabled, the bug; otherwise halt. -/
def State.halt (s : State) : State :=
  if s.params.haltBug && decide (s.cpu.ime ≠ .enabled) && decide (s.irq.pending ≠ 0) then s.setHaltBug true
  else s.setHalted true

/-- The operand byte `STOP` consumes with `STOP_SWALLOWS_OPERAND` (R322, R157). -/
def State.stopOperand (s : State) : State := if s.params.stopSwallowsOperand then s.fetch8.2 else s

/-- The speed switch (R322): the new speed is in force during the idle M-cycles. -/
def State.switchSpeed (s : State) : State :=
  State.idles Config.speedSwitchMcycles { s with doubleSpeed := !s.doubleSpeed, key1Armed := false }

/-- `STOP` (R322): nothing but on `Cgb` when armed. -/
def State.stop (s : State) : State :=
  let t := s.stopOperand
  if t.isCgb && t.key1Armed then t.switchSpeed else t

/-- `EI` (R324): `if IME = Disabled: IME <- Pending`. -/
def State.ei (s : State) : State := if s.cpu.ime = .disabled then s.setIme .pending else s

/-! ## Meanings -/

/-- 00 `NOP` (R320). -/
def execNop (s : State) : Result := .next s

/-- 10 `STOP` (R322). -/
def execStop (s : State) : Result := .next s.stop

/-- 76 `HALT` (R321). -/
def execHalt (s : State) : Result := .next s.halt

/-- CB `PREFIX CB` (R325). -/
def execPrefixCB (op2 : Byte) (s : State) : Result := .next (s.runCb op2)

/-- D3 (R326): `fault IllegalOpcode(op)`; safe, the model stops. -/
def execIllegalD3 (_ : State) : Result := .fault (.illegalOpcode 0xD3)

/-- DB (R326): `fault IllegalOpcode(op)`; safe, the model stops. -/
def execIllegalDB (_ : State) : Result := .fault (.illegalOpcode 0xDB)

/-- DD (R326): `fault IllegalOpcode(op)`; safe, the model stops. -/
def execIllegalDD (_ : State) : Result := .fault (.illegalOpcode 0xDD)

/-- E3 (R326): `fault IllegalOpcode(op)`; safe, the model stops. -/
def execIllegalE3 (_ : State) : Result := .fault (.illegalOpcode 0xE3)

/-- E4 (R326): `fault IllegalOpcode(op)`; safe, the model stops. -/
def execIllegalE4 (_ : State) : Result := .fault (.illegalOpcode 0xE4)

/-- EB (R326): `fault IllegalOpcode(op)`; safe, the model stops. -/
def execIllegalEB (_ : State) : Result := .fault (.illegalOpcode 0xEB)

/-- EC (R326): `fault IllegalOpcode(op)`; safe, the model stops. -/
def execIllegalEC (_ : State) : Result := .fault (.illegalOpcode 0xEC)

/-- ED (R326): `fault IllegalOpcode(op)`; safe, the model stops. -/
def execIllegalED (_ : State) : Result := .fault (.illegalOpcode 0xED)

/-- F3 `DI` (R323). -/
def execDi (s : State) : Result := .next (s.setIme .disabled)

/-- F4 (R326): `fault IllegalOpcode(op)`; safe, the model stops. -/
def execIllegalF4 (_ : State) : Result := .fault (.illegalOpcode 0xF4)

/-- FB `EI` (R324). -/
def execEi (s : State) : Result := .next s.ei

/-- FC (R326): `fault IllegalOpcode(op)`; safe, the model stops. -/
def execIllegalFC (_ : State) : Result := .fault (.illegalOpcode 0xFC)

/-- FD (R326): `fault IllegalOpcode(op)`; safe, the model stops. -/
def execIllegalFD (_ : State) : Result := .fault (.illegalOpcode 0xFD)

end Sys2Proof.Machine
end

