-- ==== Sys2Proof/Machine/Load16.lean ====
section
/-! DEFINITION. 16-bit loads and the stack instructions (41_load16.md R200 to R205). -/

namespace Sys2Proof.Machine

/-! ## Shared operations -/

/-- `MemWrite(nn, SP[7:0]); MemWrite(nn + 1, SP[15:8])` (R201). -/
def State.storeSp (nn : Word) (s : State) : State := (s.memWrite nn (loByte s.cpu.sp)).memWrite (nn + 1) (hiByte s.cpu.sp)

/-- `Idle(); Push16(r16stk[p])` (R203). -/
def State.pushPair (p : StkPair) (s : State) : State := s.idle.push16 (s.stkPair p)

/-- `v <- Pop16(); r16stk[p] <- v` (R204). -/
def State.popPair (p : StkPair) (s : State) : State := s.pop16.2.setStkPair p s.pop16.1

/-- `Idle(); HL <- SP + sext_16(e)` with the flags of the unsigned addition of the low bytes (R205). -/
def State.leaHl (e : Byte) (s : State) : State :=
  (s.idle.setHl (s.cpu.sp + sext16 e)).setFlags (addSpFlags s.cpu.sp e)

/-! ## Meanings -/

/-- 01 `LD BC,nn` (R200). -/
def execLdBCnn (nn : Word) (s : State) : Result := .next (s.setPair .bc nn)

/-- 08 `LD (nn),SP` (R201). -/
def execLdMemNnSP (nn : Word) (s : State) : Result := .next (s.storeSp nn)

/-- 11 `LD DE,nn` (R200). -/
def execLdDEnn (nn : Word) (s : State) : Result := .next (s.setPair .de nn)

/-- 21 `LD HL,nn` (R200). -/
def execLdHLnn (nn : Word) (s : State) : Result := .next (s.setPair .hl nn)

/-- 31 `LD SP,nn` (R200). -/
def execLdSPnn (nn : Word) (s : State) : Result := .next (s.setPair .sp nn)

/-- C1 `POP BC` (R204). -/
def execPopBC (s : State) : Result := .next (s.popPair .bc)

/-- C5 `PUSH BC` (R203). -/
def execPushBC (s : State) : Result := .next (s.pushPair .bc)

/-- D1 `POP DE` (R204). -/
def execPopDE (s : State) : Result := .next (s.popPair .de)

/-- D5 `PUSH DE` (R203). -/
def execPushDE (s : State) : Result := .next (s.pushPair .de)

/-- E1 `POP HL` (R204). -/
def execPopHL (s : State) : Result := .next (s.popPair .hl)

/-- E5 `PUSH HL` (R203). -/
def execPushHL (s : State) : Result := .next (s.pushPair .hl)

/-- F1 `POP AF` (R204). -/
def execPopAF (s : State) : Result := .next (s.popPair .af)

/-- F5 `PUSH AF` (R203). -/
def execPushAF (s : State) : Result := .next (s.pushPair .af)

/-- F8 `LD HL,SP+e` (R205). -/
def execLdHLSPe (e : Byte) (s : State) : Result := .next (s.leaHl e)

/-- F9 `LD SP,HL` (R202). -/
def execLdSPHL (s : State) : Result := .next (s.idle.setSp s.cpu.hl)

end Sys2Proof.Machine
end

