-- ==== Sys2Proof/Machine/Load8.lean ====
section
/-! DEFINITION. 8-bit loads (40_load8.md R170 to R189). PC already points past the instruction when a meaning runs
(R15, R141), and its immediate bytes are fetched. No flag is read or changed (R170). -/

namespace Sys2Proof.Machine

/-! ## Shared operations -/

/-- `r8[y] <- r8[z]` (R171). -/
def State.copyReg (dst r : Reg) (s : State) : State := s.setReg dst (s.reg r)

/-- A register from the byte at an address (R173, R176, R180, R182): the address is taken before the register
changes. -/
def State.loadReg (dst : Reg) (a : Word) (s : State) : State := (s.memReadState a).setReg dst (s.memReadValue a)

/-- A register to the byte at an address (R174, R178, R181, R189). -/
def State.storeReg (r : Reg) (a : Word) (s : State) : State := s.memWrite a (s.reg r)

/-- `HL <- HL + d` after an access (R185 to R188); no M-cycle, no flag. -/
def State.bumpHl (d : Word) (s : State) : State := s.setHl (s.cpu.hl + d)

/-! ## Meanings -/

/-- 02 `LD (BC),A` (R178). -/
def execLdMemBCA (s : State) : Result := .next (s.storeReg .a s.cpu.bc)

/-- 06 `LD B,n` (R172). -/
def execLdBn (n : Byte) (s : State) : Result := .next (s.setReg .b n)

/-- 0A `LD A,(BC)` (R176). -/
def execLdAMemBC (s : State) : Result := .next (s.loadReg .a s.cpu.bc)

/-- 0E `LD C,n` (R172). -/
def execLdCn (n : Byte) (s : State) : Result := .next (s.setReg .c n)

/-- 12 `LD (DE),A` (R179). -/
def execLdMemDEA (s : State) : Result := .next (s.storeReg .a s.cpu.de)

/-- 16 `LD D,n` (R172). -/
def execLdDn (n : Byte) (s : State) : Result := .next (s.setReg .d n)

/-- 1A `LD A,(DE)` (R177). -/
def execLdAMemDE (s : State) : Result := .next (s.loadReg .a s.cpu.de)

/-- 1E `LD E,n` (R172). -/
def execLdEn (n : Byte) (s : State) : Result := .next (s.setReg .e n)

/-- 22 `LD (HL+),A` (R185). -/
def execLdMemHLIncA (s : State) : Result := .next ((s.storeReg .a s.cpu.hl).bumpHl 1)

/-- 26 `LD H,n` (R172). -/
def execLdHn (n : Byte) (s : State) : Result := .next (s.setReg .h n)

/-- 2A `LD A,(HL+)` (R187). -/
def execLdAMemHLInc (s : State) : Result := .next ((s.loadReg .a s.cpu.hl).bumpHl 1)

/-- 2E `LD L,n` (R172). -/
def execLdLn (n : Byte) (s : State) : Result := .next (s.setReg .l n)

/-- 32 `LD (HL-),A` (R186). -/
def execLdMemHLDecA (s : State) : Result := .next ((s.storeReg .a s.cpu.hl).bumpHl (-1))

/-- 36 `LD (HL),n` (R175). -/
def execLdMemHLn (n : Byte) (s : State) : Result := .next (s.memWrite s.cpu.hl n)

/-- 3A `LD A,(HL-)` (R188). -/
def execLdAMemHLDec (s : State) : Result := .next ((s.loadReg .a s.cpu.hl).bumpHl (-1))

/-- 3E `LD A,n` (R172). -/
def execLdAn (n : Byte) (s : State) : Result := .next (s.setReg .a n)

/-- 40 `LD B,B` (R171). -/
def execLdBB (s : State) : Result := .next (s.copyReg .b .b)

/-- 41 `LD B,C` (R171). -/
def execLdBC (s : State) : Result := .next (s.copyReg .b .c)

/-- 42 `LD B,D` (R171). -/
def execLdBD (s : State) : Result := .next (s.copyReg .b .d)

/-- 43 `LD B,E` (R171). -/
def execLdBE (s : State) : Result := .next (s.copyReg .b .e)

/-- 44 `LD B,H` (R171). -/
def execLdBH (s : State) : Result := .next (s.copyReg .b .h)

/-- 45 `LD B,L` (R171). -/
def execLdBL (s : State) : Result := .next (s.copyReg .b .l)

/-- 46 `LD B,(HL)` (R173). -/
def execLdBMemHL (s : State) : Result := .next (s.loadReg .b s.cpu.hl)

/-- 47 `LD B,A` (R171). -/
def execLdBA (s : State) : Result := .next (s.copyReg .b .a)

/-- 48 `LD C,B` (R171). -/
def execLdCB (s : State) : Result := .next (s.copyReg .c .b)

/-- 49 `LD C,C` (R171). -/
def execLdCC (s : State) : Result := .next (s.copyReg .c .c)

/-- 4A `LD C,D` (R171). -/
def execLdCD (s : State) : Result := .next (s.copyReg .c .d)

/-- 4B `LD C,E` (R171). -/
def execLdCE (s : State) : Result := .next (s.copyReg .c .e)

/-- 4C `LD C,H` (R171). -/
def execLdCH (s : State) : Result := .next (s.copyReg .c .h)

/-- 4D `LD C,L` (R171). -/
def execLdCL (s : State) : Result := .next (s.copyReg .c .l)

/-- 4E `LD C,(HL)` (R173). -/
def execLdCMemHL (s : State) : Result := .next (s.loadReg .c s.cpu.hl)

/-- 4F `LD C,A` (R171). -/
def execLdCA (s : State) : Result := .next (s.copyReg .c .a)

/-- 50 `LD D,B` (R171). -/
def execLdDB (s : State) : Result := .next (s.copyReg .d .b)

/-- 51 `LD D,C` (R171). -/
def execLdDC (s : State) : Result := .next (s.copyReg .d .c)

/-- 52 `LD D,D` (R171). -/
def execLdDD (s : State) : Result := .next (s.copyReg .d .d)

/-- 53 `LD D,E` (R171). -/
def execLdDE (s : State) : Result := .next (s.copyReg .d .e)

/-- 54 `LD D,H` (R171). -/
def execLdDH (s : State) : Result := .next (s.copyReg .d .h)

/-- 55 `LD D,L` (R171). -/
def execLdDL (s : State) : Result := .next (s.copyReg .d .l)

/-- 56 `LD D,(HL)` (R173). -/
def execLdDMemHL (s : State) : Result := .next (s.loadReg .d s.cpu.hl)

/-- 57 `LD D,A` (R171). -/
def execLdDA (s : State) : Result := .next (s.copyReg .d .a)

/-- 58 `LD E,B` (R171). -/
def execLdEB (s : State) : Result := .next (s.copyReg .e .b)

/-- 59 `LD E,C` (R171). -/
def execLdEC (s : State) : Result := .next (s.copyReg .e .c)

/-- 5A `LD E,D` (R171). -/
def execLdED (s : State) : Result := .next (s.copyReg .e .d)

/-- 5B `LD E,E` (R171). -/
def execLdEE (s : State) : Result := .next (s.copyReg .e .e)

/-- 5C `LD E,H` (R171). -/
def execLdEH (s : State) : Result := .next (s.copyReg .e .h)

/-- 5D `LD E,L` (R171). -/
def execLdEL (s : State) : Result := .next (s.copyReg .e .l)

/-- 5E `LD E,(HL)` (R173). -/
def execLdEMemHL (s : State) : Result := .next (s.loadReg .e s.cpu.hl)

/-- 5F `LD E,A` (R171). -/
def execLdEA (s : State) : Result := .next (s.copyReg .e .a)

/-- 60 `LD H,B` (R171). -/
def execLdHB (s : State) : Result := .next (s.copyReg .h .b)

/-- 61 `LD H,C` (R171). -/
def execLdHC (s : State) : Result := .next (s.copyReg .h .c)

/-- 62 `LD H,D` (R171). -/
def execLdHD (s : State) : Result := .next (s.copyReg .h .d)

/-- 63 `LD H,E` (R171). -/
def execLdHE (s : State) : Result := .next (s.copyReg .h .e)

/-- 64 `LD H,H` (R171). -/
def execLdHH (s : State) : Result := .next (s.copyReg .h .h)

/-- 65 `LD H,L` (R171). -/
def execLdHL (s : State) : Result := .next (s.copyReg .h .l)

/-- 66 `LD H,(HL)` (R173). -/
def execLdHMemHL (s : State) : Result := .next (s.loadReg .h s.cpu.hl)

/-- 67 `LD H,A` (R171). -/
def execLdHA (s : State) : Result := .next (s.copyReg .h .a)

/-- 68 `LD L,B` (R171). -/
def execLdLB (s : State) : Result := .next (s.copyReg .l .b)

/-- 69 `LD L,C` (R171). -/
def execLdLC (s : State) : Result := .next (s.copyReg .l .c)

/-- 6A `LD L,D` (R171). -/
def execLdLD (s : State) : Result := .next (s.copyReg .l .d)

/-- 6B `LD L,E` (R171). -/
def execLdLE (s : State) : Result := .next (s.copyReg .l .e)

/-- 6C `LD L,H` (R171). -/
def execLdLH (s : State) : Result := .next (s.copyReg .l .h)

/-- 6D `LD L,L` (R171). -/
def execLdLL (s : State) : Result := .next (s.copyReg .l .l)

/-- 6E `LD L,(HL)` (R173). -/
def execLdLMemHL (s : State) : Result := .next (s.loadReg .l s.cpu.hl)

/-- 6F `LD L,A` (R171). -/
def execLdLA (s : State) : Result := .next (s.copyReg .l .a)

/-- 70 `LD (HL),B` (R174). -/
def execLdMemHLB (s : State) : Result := .next (s.storeReg .b s.cpu.hl)

/-- 71 `LD (HL),C` (R174). -/
def execLdMemHLC (s : State) : Result := .next (s.storeReg .c s.cpu.hl)

/-- 72 `LD (HL),D` (R174). -/
def execLdMemHLD (s : State) : Result := .next (s.storeReg .d s.cpu.hl)

/-- 73 `LD (HL),E` (R174). -/
def execLdMemHLE (s : State) : Result := .next (s.storeReg .e s.cpu.hl)

/-- 74 `LD (HL),H` (R174). -/
def execLdMemHLH (s : State) : Result := .next (s.storeReg .h s.cpu.hl)

/-- 75 `LD (HL),L` (R174). -/
def execLdMemHLL (s : State) : Result := .next (s.storeReg .l s.cpu.hl)

/-- 77 `LD (HL),A` (R174). -/
def execLdMemHLA (s : State) : Result := .next (s.storeReg .a s.cpu.hl)

/-- 78 `LD A,B` (R171). -/
def execLdAB (s : State) : Result := .next (s.copyReg .a .b)

/-- 79 `LD A,C` (R171). -/
def execLdAC (s : State) : Result := .next (s.copyReg .a .c)

/-- 7A `LD A,D` (R171). -/
def execLdAD (s : State) : Result := .next (s.copyReg .a .d)

/-- 7B `LD A,E` (R171). -/
def execLdAE (s : State) : Result := .next (s.copyReg .a .e)

/-- 7C `LD A,H` (R171). -/
def execLdAH (s : State) : Result := .next (s.copyReg .a .h)

/-- 7D `LD A,L` (R171). -/
def execLdAL (s : State) : Result := .next (s.copyReg .a .l)

/-- 7E `LD A,(HL)` (R173). -/
def execLdAMemHL (s : State) : Result := .next (s.loadReg .a s.cpu.hl)

/-- 7F `LD A,A` (R171). -/
def execLdAA (s : State) : Result := .next (s.copyReg .a .a)

/-- E0 `LDH (n),A` (R181). -/
def execLdhMemNA (n : Byte) (s : State) : Result := .next (s.storeReg .a (highPage n))

/-- E2 `LDH (C),A` (R183). -/
def execLdhMemCA (s : State) : Result := .next (s.storeReg .a (highPage s.cpu.c))

/-- EA `LD (nn),A` (R189). -/
def execLdMemNnA (nn : Word) (s : State) : Result := .next (s.storeReg .a nn)

/-- F0 `LDH A,(n)` (R182). -/
def execLdhAMemN (n : Byte) (s : State) : Result := .next (s.loadReg .a (highPage n))

/-- F2 `LDH A,(C)` (R184). -/
def execLdhAMemC (s : State) : Result := .next (s.loadReg .a (highPage s.cpu.c))

/-- FA `LD A,(nn)` (R180). -/
def execLdAMemNn (nn : Word) (s : State) : Result := .next (s.loadReg .a nn)

end Sys2Proof.Machine
end

