-- ==== Sys2Proof/WellFormed.lean ====
section
/-! DEFINITION. Which terms of `Instr` are instructions. Every immediate is a bit vector of the width its field has
(30_encoding.md R144), and R156 says that no defined instruction has a reserved field, so one check is left: the row
`PREFIX_CB` is no instruction (46_cpu_control.md R325: "The prefix is not an instruction of its own"); the bytes
`CB op2` are the instruction of the CB table. -/

namespace Sys2Proof

/-- The term is the row `PREFIX_CB` of the opcode table. -/
def Instr.isPrefix : Instr → Bool
  | .prefixCB _ => true
  | _ => false

/-- The term is an instruction: something the decoder gives for some bytes (log entry 11). -/
abbrev WellFormed (i : Instr) : Prop := i.isPrefix = false

end Sys2Proof
end

