-- ==== Sys2Proof/Decode.lean ====
section
/-! DEFINITION. Decoding and encoding (30_encoding.md R140 to R157): the two tables of 256 entries, the decoder, the
encoder, and the decoder as the host's opcode table words its rows. -/

namespace Sys2Proof

/-! ## The two tables -/

/-- An entry of the primary table: the instruction, or what it is of the bytes that follow the opcode (R142). -/
inductive Entry where
  /-- format `OP`: no byte follows -/
  | op (i : Instr)
  /-- formats `OP_N` and `OP_E`: one byte follows -/
  | imm (f : Byte → Instr)
  /-- format `OP_NN`: two bytes follow, the low one first -/
  | imm16 (f : Word → Instr)
  /-- the prefix `CB`: one byte follows, looked up in the CB table (R140, R325) -/
  | cbPrefix

/-- The primary table as the grid of R151: row = high nibble, column = low nibble. The eleven illegal bytes have
their own rows (R155). -/
def primaryGrid : List (List Entry) := [
  [.op .nop, .imm16 .ldBCnn, .op .ldMemBCA, .op .incBC, .op .incB, .op .decB, .imm .ldBn, .op .rlca,
   .imm16 .ldMemNnSP, .op .addHLBC, .op .ldAMemBC, .op .decBC, .op .incC, .op .decC, .imm .ldCn, .op .rrca],
  [.op .stop, .imm16 .ldDEnn, .op .ldMemDEA, .op .incDE, .op .incD, .op .decD, .imm .ldDn, .op .rla, .imm .jre,
   .op .addHLDE, .op .ldAMemDE, .op .decDE, .op .incE, .op .decE, .imm .ldEn, .op .rra],
  [.imm .jrNZe, .imm16 .ldHLnn, .op .ldMemHLIncA, .op .incHL, .op .incH, .op .decH, .imm .ldHn, .op .daa, .imm .jrZe,
   .op .addHLHL, .op .ldAMemHLInc, .op .decHL, .op .incL, .op .decL, .imm .ldLn, .op .cpl],
  [.imm .jrNCe, .imm16 .ldSPnn, .op .ldMemHLDecA, .op .incSP, .op .incMemHL, .op .decMemHL, .imm .ldMemHLn, .op .scf,
   .imm .jrCe, .op .addHLSP, .op .ldAMemHLDec, .op .decSP, .op .incA, .op .decA, .imm .ldAn, .op .ccf],
  [.op .ldBB, .op .ldBC, .op .ldBD, .op .ldBE, .op .ldBH, .op .ldBL, .op .ldBMemHL, .op .ldBA, .op .ldCB, .op .ldCC,
   .op .ldCD, .op .ldCE, .op .ldCH, .op .ldCL, .op .ldCMemHL, .op .ldCA],
  [.op .ldDB, .op .ldDC, .op .ldDD, .op .ldDE, .op .ldDH, .op .ldDL, .op .ldDMemHL, .op .ldDA, .op .ldEB, .op .ldEC,
   .op .ldED, .op .ldEE, .op .ldEH, .op .ldEL, .op .ldEMemHL, .op .ldEA],
  [.op .ldHB, .op .ldHC, .op .ldHD, .op .ldHE, .op .ldHH, .op .ldHL, .op .ldHMemHL, .op .ldHA, .op .ldLB, .op .ldLC,
   .op .ldLD, .op .ldLE, .op .ldLH, .op .ldLL, .op .ldLMemHL, .op .ldLA],
  [.op .ldMemHLB, .op .ldMemHLC, .op .ldMemHLD, .op .ldMemHLE, .op .ldMemHLH, .op .ldMemHLL, .op .halt,
   .op .ldMemHLA, .op .ldAB, .op .ldAC, .op .ldAD, .op .ldAE, .op .ldAH, .op .ldAL, .op .ldAMemHL, .op .ldAA],
  [.op .addAB, .op .addAC, .op .addAD, .op .addAE, .op .addAH, .op .addAL, .op .addAMemHL, .op .addAA, .op .adcAB,
   .op .adcAC, .op .adcAD, .op .adcAE, .op .adcAH, .op .adcAL, .op .adcAMemHL, .op .adcAA],
  [.op .subB, .op .subC, .op .subD, .op .subE, .op .subH, .op .subL, .op .subMemHL, .op .subA, .op .sbcAB,
   .op .sbcAC, .op .sbcAD, .op .sbcAE, .op .sbcAH, .op .sbcAL, .op .sbcAMemHL, .op .sbcAA],
  [.op .andB, .op .andC, .op .andD, .op .andE, .op .andH, .op .andL, .op .andMemHL, .op .andA, .op .xorB, .op .xorC,
   .op .xorD, .op .xorE, .op .xorH, .op .xorL, .op .xorMemHL, .op .xorA],
  [.op .orB, .op .orC, .op .orD, .op .orE, .op .orH, .op .orL, .op .orMemHL, .op .orA, .op .cpB, .op .cpC, .op .cpD,
   .op .cpE, .op .cpH, .op .cpL, .op .cpMemHL, .op .cpA],
  [.op .retNZ, .op .popBC, .imm16 .jpNZnn, .imm16 .jpnn, .imm16 .callNZnn, .op .pushBC, .imm .addAn, .op .rst00,
   .op .retZ, .op .ret, .imm16 .jpZnn, .cbPrefix, .imm16 .callZnn, .imm16 .callnn, .imm .adcAn, .op .rst08],
  [.op .retNC, .op .popDE, .imm16 .jpNCnn, .op .illegalD3, .imm16 .callNCnn, .op .pushDE, .imm .subn, .op .rst10,
   .op .retC, .op .reti, .imm16 .jpCnn, .op .illegalDB, .imm16 .callCnn, .op .illegalDD, .imm .sbcAn, .op .rst18],
  [.imm .ldhMemNA, .op .popHL, .op .ldhMemCA, .op .illegalE3, .op .illegalE4, .op .pushHL, .imm .andn, .op .rst20,
   .imm .addSPe, .op .jpHL, .imm16 .ldMemNnA, .op .illegalEB, .op .illegalEC, .op .illegalED, .imm .xorn, .op .rst28],
  [.imm .ldhAMemN, .op .popAF, .op .ldhAMemC, .op .di, .op .illegalF4, .op .pushAF, .imm .orn, .op .rst30,
   .imm .ldHLSPe, .op .ldSPHL, .imm16 .ldAMemNn, .op .ei, .op .illegalFC, .op .illegalFD, .imm .cpn, .op .rst38]]

/-- The CB table (R152): row = high nibble of `op2`, column = low nibble. -/
def cbGrid : List (List Instr) := [
  [.rlcB, .rlcC, .rlcD, .rlcE, .rlcH, .rlcL, .rlcMemHL, .rlcA, .rrcB, .rrcC, .rrcD, .rrcE, .rrcH, .rrcL, .rrcMemHL,
   .rrcA],
  [.rlB, .rlC, .rlD, .rlE, .rlH, .rlL, .rlMemHL, .rlA, .rrB, .rrC, .rrD, .rrE, .rrH, .rrL, .rrMemHL, .rrA],
  [.slaB, .slaC, .slaD, .slaE, .slaH, .slaL, .slaMemHL, .slaA, .sraB, .sraC, .sraD, .sraE, .sraH, .sraL, .sraMemHL,
   .sraA],
  [.swapB, .swapC, .swapD, .swapE, .swapH, .swapL, .swapMemHL, .swapA, .srlB, .srlC, .srlD, .srlE, .srlH, .srlL,
   .srlMemHL, .srlA],
  [.bit0B, .bit0C, .bit0D, .bit0E, .bit0H, .bit0L, .bit0MemHL, .bit0A, .bit1B, .bit1C, .bit1D, .bit1E, .bit1H,
   .bit1L, .bit1MemHL, .bit1A],
  [.bit2B, .bit2C, .bit2D, .bit2E, .bit2H, .bit2L, .bit2MemHL, .bit2A, .bit3B, .bit3C, .bit3D, .bit3E, .bit3H,
   .bit3L, .bit3MemHL, .bit3A],
  [.bit4B, .bit4C, .bit4D, .bit4E, .bit4H, .bit4L, .bit4MemHL, .bit4A, .bit5B, .bit5C, .bit5D, .bit5E, .bit5H,
   .bit5L, .bit5MemHL, .bit5A],
  [.bit6B, .bit6C, .bit6D, .bit6E, .bit6H, .bit6L, .bit6MemHL, .bit6A, .bit7B, .bit7C, .bit7D, .bit7E, .bit7H,
   .bit7L, .bit7MemHL, .bit7A],
  [.res0B, .res0C, .res0D, .res0E, .res0H, .res0L, .res0MemHL, .res0A, .res1B, .res1C, .res1D, .res1E, .res1H,
   .res1L, .res1MemHL, .res1A],
  [.res2B, .res2C, .res2D, .res2E, .res2H, .res2L, .res2MemHL, .res2A, .res3B, .res3C, .res3D, .res3E, .res3H,
   .res3L, .res3MemHL, .res3A],
  [.res4B, .res4C, .res4D, .res4E, .res4H, .res4L, .res4MemHL, .res4A, .res5B, .res5C, .res5D, .res5E, .res5H,
   .res5L, .res5MemHL, .res5A],
  [.res6B, .res6C, .res6D, .res6E, .res6H, .res6L, .res6MemHL, .res6A, .res7B, .res7C, .res7D, .res7E, .res7H,
   .res7L, .res7MemHL, .res7A],
  [.set0B, .set0C, .set0D, .set0E, .set0H, .set0L, .set0MemHL, .set0A, .set1B, .set1C, .set1D, .set1E, .set1H,
   .set1L, .set1MemHL, .set1A],
  [.set2B, .set2C, .set2D, .set2E, .set2H, .set2L, .set2MemHL, .set2A, .set3B, .set3C, .set3D, .set3E, .set3H,
   .set3L, .set3MemHL, .set3A],
  [.set4B, .set4C, .set4D, .set4E, .set4H, .set4L, .set4MemHL, .set4A, .set5B, .set5C, .set5D, .set5E, .set5H,
   .set5L, .set5MemHL, .set5A],
  [.set6B, .set6C, .set6D, .set6E, .set6H, .set6L, .set6MemHL, .set6A, .set7B, .set7C, .set7D, .set7E, .set7H,
   .set7L, .set7MemHL, .set7A]]

/-- The cell of a 16 by 16 grid; a byte always has one, so `d` is never answered. -/
def gridAt {α : Type} (g : List (List α)) (d : α) (op : Byte) : α :=
  (g.getD (op.toNat / 16) []).getD (op.toNat % 16) d

/-- The primary table (R150, R151). -/
def primaryEntry (op : Byte) : Entry := gridAt primaryGrid (.op .nop) op

/-- The CB table (R152). -/
def cbInstr (op2 : Byte) : Instr := gridAt cbGrid .nop op2

/-- How many bytes an entry's instruction has (R140, R145). `STOP` has 1; with `STOP_SWALLOWS_OPERAND` its meaning
fetches one more (R157, R322). -/
def Entry.length : Entry → Nat
  | .op _ => 1
  | .imm _ => 2
  | .imm16 _ => 3
  | .cbPrefix => 2

/-- The instruction of an entry, given the two bytes after the opcode. -/
def Entry.instr (b1 b2 : Byte) : Entry → Instr
  | .op i => i
  | .imm f => f b1
  | .imm16 f => f (wordOf b2 b1)
  | .cbPrefix => cbInstr b1

/-- The length of an instruction from its first byte (R145). -/
def instrLength (op : Byte) : Nat := (primaryEntry op).length

/-- The instruction that begins with opcode `op`, followed by `b1` and `b2`; bytes beyond its length do not matter
(R141). Every byte has a meaning: the eleven illegal ones decode to their rows, whose meaning is the fault of R326. -/
def decodeBytes (op b1 b2 : Byte) : Instr := (primaryEntry op).instr b1 b2

/-! ## Decoding a list of bytes -/

/-- Why a list of bytes begins with no instruction. -/
inductive DecodeReject where
  /-- there is no first byte -/
  | empty
  /-- the bytes end inside the instruction that `op` begins -/
  | truncated (op : Byte)
deriving DecidableEq, Repr

/-- The first instruction of a list of bytes, and the bytes after it (R140). -/
def decode : List Byte → Except DecodeReject (Instr × List Byte)
  | [] => .error .empty
  | op :: rest =>
    match primaryEntry op, rest with
    | .op i, rest => .ok (i, rest)
    | .imm f, b1 :: rest => .ok (f b1, rest)
    | .imm16 f, b1 :: b2 :: rest => .ok (f (wordOf b2 b1), rest)
    | .cbPrefix, b1 :: rest => .ok (cbInstr b1, rest)
    | .imm _, [] => .error (.truncated op)
    | .imm16 _, [] => .error (.truncated op)
    | .imm16 _, [_] => .error (.truncated op)
    | .cbPrefix, [] => .error (.truncated op)

/-! ## Encoding -/

/-- The bytes of an instruction (R140, R151, R152): the opcode, then `n`, `e`, or `nn` low byte first (R144). -/
def encode : Instr → List Byte
  | .nop => [0x00]
  | .ldBCnn nn => [0x01, loByte nn, hiByte nn]
  | .ldMemBCA => [0x02]
  | .incBC => [0x03]
  | .incB => [0x04]
  | .decB => [0x05]
  | .ldBn n => [0x06, n]
  | .rlca => [0x07]
  | .ldMemNnSP nn => [0x08, loByte nn, hiByte nn]
  | .addHLBC => [0x09]
  | .ldAMemBC => [0x0A]
  | .decBC => [0x0B]
  | .incC => [0x0C]
  | .decC => [0x0D]
  | .ldCn n => [0x0E, n]
  | .rrca => [0x0F]
  | .stop => [0x10]
  | .ldDEnn nn => [0x11, loByte nn, hiByte nn]
  | .ldMemDEA => [0x12]
  | .incDE => [0x13]
  | .incD => [0x14]
  | .decD => [0x15]
  | .ldDn n => [0x16, n]
  | .rla => [0x17]
  | .jre e => [0x18, e]
  | .addHLDE => [0x19]
  | .ldAMemDE => [0x1A]
  | .decDE => [0x1B]
  | .incE => [0x1C]
  | .decE => [0x1D]
  | .ldEn n => [0x1E, n]
  | .rra => [0x1F]
  | .jrNZe e => [0x20, e]
  | .ldHLnn nn => [0x21, loByte nn, hiByte nn]
  | .ldMemHLIncA => [0x22]
  | .incHL => [0x23]
  | .incH => [0x24]
  | .decH => [0x25]
  | .ldHn n => [0x26, n]
  | .daa => [0x27]
  | .jrZe e => [0x28, e]
  | .addHLHL => [0x29]
  | .ldAMemHLInc => [0x2A]
  | .decHL => [0x2B]
  | .incL => [0x2C]
  | .decL => [0x2D]
  | .ldLn n => [0x2E, n]
  | .cpl => [0x2F]
  | .jrNCe e => [0x30, e]
  | .ldSPnn nn => [0x31, loByte nn, hiByte nn]
  | .ldMemHLDecA => [0x32]
  | .incSP => [0x33]
  | .incMemHL => [0x34]
  | .decMemHL => [0x35]
  | .ldMemHLn n => [0x36, n]
  | .scf => [0x37]
  | .jrCe e => [0x38, e]
  | .addHLSP => [0x39]
  | .ldAMemHLDec => [0x3A]
  | .decSP => [0x3B]
  | .incA => [0x3C]
  | .decA => [0x3D]
  | .ldAn n => [0x3E, n]
  | .ccf => [0x3F]
  | .ldBB => [0x40]
  | .ldBC => [0x41]
  | .ldBD => [0x42]
  | .ldBE => [0x43]
  | .ldBH => [0x44]
  | .ldBL => [0x45]
  | .ldBMemHL => [0x46]
  | .ldBA => [0x47]
  | .ldCB => [0x48]
  | .ldCC => [0x49]
  | .ldCD => [0x4A]
  | .ldCE => [0x4B]
  | .ldCH => [0x4C]
  | .ldCL => [0x4D]
  | .ldCMemHL => [0x4E]
  | .ldCA => [0x4F]
  | .ldDB => [0x50]
  | .ldDC => [0x51]
  | .ldDD => [0x52]
  | .ldDE => [0x53]
  | .ldDH => [0x54]
  | .ldDL => [0x55]
  | .ldDMemHL => [0x56]
  | .ldDA => [0x57]
  | .ldEB => [0x58]
  | .ldEC => [0x59]
  | .ldED => [0x5A]
  | .ldEE => [0x5B]
  | .ldEH => [0x5C]
  | .ldEL => [0x5D]
  | .ldEMemHL => [0x5E]
  | .ldEA => [0x5F]
  | .ldHB => [0x60]
  | .ldHC => [0x61]
  | .ldHD => [0x62]
  | .ldHE => [0x63]
  | .ldHH => [0x64]
  | .ldHL => [0x65]
  | .ldHMemHL => [0x66]
  | .ldHA => [0x67]
  | .ldLB => [0x68]
  | .ldLC => [0x69]
  | .ldLD => [0x6A]
  | .ldLE => [0x6B]
  | .ldLH => [0x6C]
  | .ldLL => [0x6D]
  | .ldLMemHL => [0x6E]
  | .ldLA => [0x6F]
  | .ldMemHLB => [0x70]
  | .ldMemHLC => [0x71]
  | .ldMemHLD => [0x72]
  | .ldMemHLE => [0x73]
  | .ldMemHLH => [0x74]
  | .ldMemHLL => [0x75]
  | .halt => [0x76]
  | .ldMemHLA => [0x77]
  | .ldAB => [0x78]
  | .ldAC => [0x79]
  | .ldAD => [0x7A]
  | .ldAE => [0x7B]
  | .ldAH => [0x7C]
  | .ldAL => [0x7D]
  | .ldAMemHL => [0x7E]
  | .ldAA => [0x7F]
  | .addAB => [0x80]
  | .addAC => [0x81]
  | .addAD => [0x82]
  | .addAE => [0x83]
  | .addAH => [0x84]
  | .addAL => [0x85]
  | .addAMemHL => [0x86]
  | .addAA => [0x87]
  | .adcAB => [0x88]
  | .adcAC => [0x89]
  | .adcAD => [0x8A]
  | .adcAE => [0x8B]
  | .adcAH => [0x8C]
  | .adcAL => [0x8D]
  | .adcAMemHL => [0x8E]
  | .adcAA => [0x8F]
  | .subB => [0x90]
  | .subC => [0x91]
  | .subD => [0x92]
  | .subE => [0x93]
  | .subH => [0x94]
  | .subL => [0x95]
  | .subMemHL => [0x96]
  | .subA => [0x97]
  | .sbcAB => [0x98]
  | .sbcAC => [0x99]
  | .sbcAD => [0x9A]
  | .sbcAE => [0x9B]
  | .sbcAH => [0x9C]
  | .sbcAL => [0x9D]
  | .sbcAMemHL => [0x9E]
  | .sbcAA => [0x9F]
  | .andB => [0xA0]
  | .andC => [0xA1]
  | .andD => [0xA2]
  | .andE => [0xA3]
  | .andH => [0xA4]
  | .andL => [0xA5]
  | .andMemHL => [0xA6]
  | .andA => [0xA7]
  | .xorB => [0xA8]
  | .xorC => [0xA9]
  | .xorD => [0xAA]
  | .xorE => [0xAB]
  | .xorH => [0xAC]
  | .xorL => [0xAD]
  | .xorMemHL => [0xAE]
  | .xorA => [0xAF]
  | .orB => [0xB0]
  | .orC => [0xB1]
  | .orD => [0xB2]
  | .orE => [0xB3]
  | .orH => [0xB4]
  | .orL => [0xB5]
  | .orMemHL => [0xB6]
  | .orA => [0xB7]
  | .cpB => [0xB8]
  | .cpC => [0xB9]
  | .cpD => [0xBA]
  | .cpE => [0xBB]
  | .cpH => [0xBC]
  | .cpL => [0xBD]
  | .cpMemHL => [0xBE]
  | .cpA => [0xBF]
  | .retNZ => [0xC0]
  | .popBC => [0xC1]
  | .jpNZnn nn => [0xC2, loByte nn, hiByte nn]
  | .jpnn nn => [0xC3, loByte nn, hiByte nn]
  | .callNZnn nn => [0xC4, loByte nn, hiByte nn]
  | .pushBC => [0xC5]
  | .addAn n => [0xC6, n]
  | .rst00 => [0xC7]
  | .retZ => [0xC8]
  | .ret => [0xC9]
  | .jpZnn nn => [0xCA, loByte nn, hiByte nn]
  | .prefixCB op2 => [0xCB, op2]
  | .callZnn nn => [0xCC, loByte nn, hiByte nn]
  | .callnn nn => [0xCD, loByte nn, hiByte nn]
  | .adcAn n => [0xCE, n]
  | .rst08 => [0xCF]
  | .retNC => [0xD0]
  | .popDE => [0xD1]
  | .jpNCnn nn => [0xD2, loByte nn, hiByte nn]
  | .illegalD3 => [0xD3]
  | .callNCnn nn => [0xD4, loByte nn, hiByte nn]
  | .pushDE => [0xD5]
  | .subn n => [0xD6, n]
  | .rst10 => [0xD7]
  | .retC => [0xD8]
  | .reti => [0xD9]
  | .jpCnn nn => [0xDA, loByte nn, hiByte nn]
  | .illegalDB => [0xDB]
  | .callCnn nn => [0xDC, loByte nn, hiByte nn]
  | .illegalDD => [0xDD]
  | .sbcAn n => [0xDE, n]
  | .rst18 => [0xDF]
  | .ldhMemNA n => [0xE0, n]
  | .popHL => [0xE1]
  | .ldhMemCA => [0xE2]
  | .illegalE3 => [0xE3]
  | .illegalE4 => [0xE4]
  | .pushHL => [0xE5]
  | .andn n => [0xE6, n]
  | .rst20 => [0xE7]
  | .addSPe e => [0xE8, e]
  | .jpHL => [0xE9]
  | .ldMemNnA nn => [0xEA, loByte nn, hiByte nn]
  | .illegalEB => [0xEB]
  | .illegalEC => [0xEC]
  | .illegalED => [0xED]
  | .xorn n => [0xEE, n]
  | .rst28 => [0xEF]
  | .ldhAMemN n => [0xF0, n]
  | .popAF => [0xF1]
  | .ldhAMemC => [0xF2]
  | .di => [0xF3]
  | .illegalF4 => [0xF4]
  | .pushAF => [0xF5]
  | .orn n => [0xF6, n]
  | .rst30 => [0xF7]
  | .ldHLSPe e => [0xF8, e]
  | .ldSPHL => [0xF9]
  | .ldAMemNn nn => [0xFA, loByte nn, hiByte nn]
  | .ei => [0xFB]
  | .illegalFC => [0xFC]
  | .illegalFD => [0xFD]
  | .cpn n => [0xFE, n]
  | .rst38 => [0xFF]
  | .rlcB => [0xCB, 0x00]
  | .rlcC => [0xCB, 0x01]
  | .rlcD => [0xCB, 0x02]
  | .rlcE => [0xCB, 0x03]
  | .rlcH => [0xCB, 0x04]
  | .rlcL => [0xCB, 0x05]
  | .rlcMemHL => [0xCB, 0x06]
  | .rlcA => [0xCB, 0x07]
  | .rrcB => [0xCB, 0x08]
  | .rrcC => [0xCB, 0x09]
  | .rrcD => [0xCB, 0x0A]
  | .rrcE => [0xCB, 0x0B]
  | .rrcH => [0xCB, 0x0C]
  | .rrcL => [0xCB, 0x0D]
  | .rrcMemHL => [0xCB, 0x0E]
  | .rrcA => [0xCB, 0x0F]
  | .rlB => [0xCB, 0x10]
  | .rlC => [0xCB, 0x11]
  | .rlD => [0xCB, 0x12]
  | .rlE => [0xCB, 0x13]
  | .rlH => [0xCB, 0x14]
  | .rlL => [0xCB, 0x15]
  | .rlMemHL => [0xCB, 0x16]
  | .rlA => [0xCB, 0x17]
  | .rrB => [0xCB, 0x18]
  | .rrC => [0xCB, 0x19]
  | .rrD => [0xCB, 0x1A]
  | .rrE => [0xCB, 0x1B]
  | .rrH => [0xCB, 0x1C]
  | .rrL => [0xCB, 0x1D]
  | .rrMemHL => [0xCB, 0x1E]
  | .rrA => [0xCB, 0x1F]
  | .slaB => [0xCB, 0x20]
  | .slaC => [0xCB, 0x21]
  | .slaD => [0xCB, 0x22]
  | .slaE => [0xCB, 0x23]
  | .slaH => [0xCB, 0x24]
  | .slaL => [0xCB, 0x25]
  | .slaMemHL => [0xCB, 0x26]
  | .slaA => [0xCB, 0x27]
  | .sraB => [0xCB, 0x28]
  | .sraC => [0xCB, 0x29]
  | .sraD => [0xCB, 0x2A]
  | .sraE => [0xCB, 0x2B]
  | .sraH => [0xCB, 0x2C]
  | .sraL => [0xCB, 0x2D]
  | .sraMemHL => [0xCB, 0x2E]
  | .sraA => [0xCB, 0x2F]
  | .swapB => [0xCB, 0x30]
  | .swapC => [0xCB, 0x31]
  | .swapD => [0xCB, 0x32]
  | .swapE => [0xCB, 0x33]
  | .swapH => [0xCB, 0x34]
  | .swapL => [0xCB, 0x35]
  | .swapMemHL => [0xCB, 0x36]
  | .swapA => [0xCB, 0x37]
  | .srlB => [0xCB, 0x38]
  | .srlC => [0xCB, 0x39]
  | .srlD => [0xCB, 0x3A]
  | .srlE => [0xCB, 0x3B]
  | .srlH => [0xCB, 0x3C]
  | .srlL => [0xCB, 0x3D]
  | .srlMemHL => [0xCB, 0x3E]
  | .srlA => [0xCB, 0x3F]
  | .bit0B => [0xCB, 0x40]
  | .bit0C => [0xCB, 0x41]
  | .bit0D => [0xCB, 0x42]
  | .bit0E => [0xCB, 0x43]
  | .bit0H => [0xCB, 0x44]
  | .bit0L => [0xCB, 0x45]
  | .bit0MemHL => [0xCB, 0x46]
  | .bit0A => [0xCB, 0x47]
  | .bit1B => [0xCB, 0x48]
  | .bit1C => [0xCB, 0x49]
  | .bit1D => [0xCB, 0x4A]
  | .bit1E => [0xCB, 0x4B]
  | .bit1H => [0xCB, 0x4C]
  | .bit1L => [0xCB, 0x4D]
  | .bit1MemHL => [0xCB, 0x4E]
  | .bit1A => [0xCB, 0x4F]
  | .bit2B => [0xCB, 0x50]
  | .bit2C => [0xCB, 0x51]
  | .bit2D => [0xCB, 0x52]
  | .bit2E => [0xCB, 0x53]
  | .bit2H => [0xCB, 0x54]
  | .bit2L => [0xCB, 0x55]
  | .bit2MemHL => [0xCB, 0x56]
  | .bit2A => [0xCB, 0x57]
  | .bit3B => [0xCB, 0x58]
  | .bit3C => [0xCB, 0x59]
  | .bit3D => [0xCB, 0x5A]
  | .bit3E => [0xCB, 0x5B]
  | .bit3H => [0xCB, 0x5C]
  | .bit3L => [0xCB, 0x5D]
  | .bit3MemHL => [0xCB, 0x5E]
  | .bit3A => [0xCB, 0x5F]
  | .bit4B => [0xCB, 0x60]
  | .bit4C => [0xCB, 0x61]
  | .bit4D => [0xCB, 0x62]
  | .bit4E => [0xCB, 0x63]
  | .bit4H => [0xCB, 0x64]
  | .bit4L => [0xCB, 0x65]
  | .bit4MemHL => [0xCB, 0x66]
  | .bit4A => [0xCB, 0x67]
  | .bit5B => [0xCB, 0x68]
  | .bit5C => [0xCB, 0x69]
  | .bit5D => [0xCB, 0x6A]
  | .bit5E => [0xCB, 0x6B]
  | .bit5H => [0xCB, 0x6C]
  | .bit5L => [0xCB, 0x6D]
  | .bit5MemHL => [0xCB, 0x6E]
  | .bit5A => [0xCB, 0x6F]
  | .bit6B => [0xCB, 0x70]
  | .bit6C => [0xCB, 0x71]
  | .bit6D => [0xCB, 0x72]
  | .bit6E => [0xCB, 0x73]
  | .bit6H => [0xCB, 0x74]
  | .bit6L => [0xCB, 0x75]
  | .bit6MemHL => [0xCB, 0x76]
  | .bit6A => [0xCB, 0x77]
  | .bit7B => [0xCB, 0x78]
  | .bit7C => [0xCB, 0x79]
  | .bit7D => [0xCB, 0x7A]
  | .bit7E => [0xCB, 0x7B]
  | .bit7H => [0xCB, 0x7C]
  | .bit7L => [0xCB, 0x7D]
  | .bit7MemHL => [0xCB, 0x7E]
  | .bit7A => [0xCB, 0x7F]
  | .res0B => [0xCB, 0x80]
  | .res0C => [0xCB, 0x81]
  | .res0D => [0xCB, 0x82]
  | .res0E => [0xCB, 0x83]
  | .res0H => [0xCB, 0x84]
  | .res0L => [0xCB, 0x85]
  | .res0MemHL => [0xCB, 0x86]
  | .res0A => [0xCB, 0x87]
  | .res1B => [0xCB, 0x88]
  | .res1C => [0xCB, 0x89]
  | .res1D => [0xCB, 0x8A]
  | .res1E => [0xCB, 0x8B]
  | .res1H => [0xCB, 0x8C]
  | .res1L => [0xCB, 0x8D]
  | .res1MemHL => [0xCB, 0x8E]
  | .res1A => [0xCB, 0x8F]
  | .res2B => [0xCB, 0x90]
  | .res2C => [0xCB, 0x91]
  | .res2D => [0xCB, 0x92]
  | .res2E => [0xCB, 0x93]
  | .res2H => [0xCB, 0x94]
  | .res2L => [0xCB, 0x95]
  | .res2MemHL => [0xCB, 0x96]
  | .res2A => [0xCB, 0x97]
  | .res3B => [0xCB, 0x98]
  | .res3C => [0xCB, 0x99]
  | .res3D => [0xCB, 0x9A]
  | .res3E => [0xCB, 0x9B]
  | .res3H => [0xCB, 0x9C]
  | .res3L => [0xCB, 0x9D]
  | .res3MemHL => [0xCB, 0x9E]
  | .res3A => [0xCB, 0x9F]
  | .res4B => [0xCB, 0xA0]
  | .res4C => [0xCB, 0xA1]
  | .res4D => [0xCB, 0xA2]
  | .res4E => [0xCB, 0xA3]
  | .res4H => [0xCB, 0xA4]
  | .res4L => [0xCB, 0xA5]
  | .res4MemHL => [0xCB, 0xA6]
  | .res4A => [0xCB, 0xA7]
  | .res5B => [0xCB, 0xA8]
  | .res5C => [0xCB, 0xA9]
  | .res5D => [0xCB, 0xAA]
  | .res5E => [0xCB, 0xAB]
  | .res5H => [0xCB, 0xAC]
  | .res5L => [0xCB, 0xAD]
  | .res5MemHL => [0xCB, 0xAE]
  | .res5A => [0xCB, 0xAF]
  | .res6B => [0xCB, 0xB0]
  | .res6C => [0xCB, 0xB1]
  | .res6D => [0xCB, 0xB2]
  | .res6E => [0xCB, 0xB3]
  | .res6H => [0xCB, 0xB4]
  | .res6L => [0xCB, 0xB5]
  | .res6MemHL => [0xCB, 0xB6]
  | .res6A => [0xCB, 0xB7]
  | .res7B => [0xCB, 0xB8]
  | .res7C => [0xCB, 0xB9]
  | .res7D => [0xCB, 0xBA]
  | .res7E => [0xCB, 0xBB]
  | .res7H => [0xCB, 0xBC]
  | .res7L => [0xCB, 0xBD]
  | .res7MemHL => [0xCB, 0xBE]
  | .res7A => [0xCB, 0xBF]
  | .set0B => [0xCB, 0xC0]
  | .set0C => [0xCB, 0xC1]
  | .set0D => [0xCB, 0xC2]
  | .set0E => [0xCB, 0xC3]
  | .set0H => [0xCB, 0xC4]
  | .set0L => [0xCB, 0xC5]
  | .set0MemHL => [0xCB, 0xC6]
  | .set0A => [0xCB, 0xC7]
  | .set1B => [0xCB, 0xC8]
  | .set1C => [0xCB, 0xC9]
  | .set1D => [0xCB, 0xCA]
  | .set1E => [0xCB, 0xCB]
  | .set1H => [0xCB, 0xCC]
  | .set1L => [0xCB, 0xCD]
  | .set1MemHL => [0xCB, 0xCE]
  | .set1A => [0xCB, 0xCF]
  | .set2B => [0xCB, 0xD0]
  | .set2C => [0xCB, 0xD1]
  | .set2D => [0xCB, 0xD2]
  | .set2E => [0xCB, 0xD3]
  | .set2H => [0xCB, 0xD4]
  | .set2L => [0xCB, 0xD5]
  | .set2MemHL => [0xCB, 0xD6]
  | .set2A => [0xCB, 0xD7]
  | .set3B => [0xCB, 0xD8]
  | .set3C => [0xCB, 0xD9]
  | .set3D => [0xCB, 0xDA]
  | .set3E => [0xCB, 0xDB]
  | .set3H => [0xCB, 0xDC]
  | .set3L => [0xCB, 0xDD]
  | .set3MemHL => [0xCB, 0xDE]
  | .set3A => [0xCB, 0xDF]
  | .set4B => [0xCB, 0xE0]
  | .set4C => [0xCB, 0xE1]
  | .set4D => [0xCB, 0xE2]
  | .set4E => [0xCB, 0xE3]
  | .set4H => [0xCB, 0xE4]
  | .set4L => [0xCB, 0xE5]
  | .set4MemHL => [0xCB, 0xE6]
  | .set4A => [0xCB, 0xE7]
  | .set5B => [0xCB, 0xE8]
  | .set5C => [0xCB, 0xE9]
  | .set5D => [0xCB, 0xEA]
  | .set5E => [0xCB, 0xEB]
  | .set5H => [0xCB, 0xEC]
  | .set5L => [0xCB, 0xED]
  | .set5MemHL => [0xCB, 0xEE]
  | .set5A => [0xCB, 0xEF]
  | .set6B => [0xCB, 0xF0]
  | .set6C => [0xCB, 0xF1]
  | .set6D => [0xCB, 0xF2]
  | .set6E => [0xCB, 0xF3]
  | .set6H => [0xCB, 0xF4]
  | .set6L => [0xCB, 0xF5]
  | .set6MemHL => [0xCB, 0xF6]
  | .set6A => [0xCB, 0xF7]
  | .set7B => [0xCB, 0xF8]
  | .set7C => [0xCB, 0xF9]
  | .set7D => [0xCB, 0xFA]
  | .set7E => [0xCB, 0xFB]
  | .set7H => [0xCB, 0xFC]
  | .set7L => [0xCB, 0xFD]
  | .set7MemHL => [0xCB, 0xFE]
  | .set7A => [0xCB, 0xFF]

/-! ## The host's numbering of the opcode table -/

/-- The three bytes at an instruction's address when its `nbits` bits are `w` and every later bit is 0. A row of one
byte has its opcode in bits 7..0. A row of the CB table is the 16-bit value `{0xCB, op2}` (R162), the first byte in
bits 15..8; any other value counts its bytes from bit 0 (log entry 12). -/
def tableBytes (nbits w : Nat) : Byte × Byte × Byte :=
  let v := w % 2 ^ nbits
  let b (k : Nat) : Byte := BitVec.ofNat 8 (v / 2 ^ (8 * k))
  if 8 < nbits ∧ nbits ≤ 16 ∧ b 1 = 0xCB then (b 1, b 0, 0) else (b 0, b 1, b 2)

/-- The instruction the decoder reads from an instruction whose bits are `w` in the opcode table's numbering. A row
of one byte is looked up in the primary table alone, where `CB` is the row `PREFIX_CB` (log entries 11 and 12). -/
def decodeTableWord (nbits w : Nat) : Option Instr :=
  match tableBytes nbits w with
  | (op, b1, b2) =>
    match primaryEntry op with
    | .cbPrefix => some (if nbits ≤ 8 then .prefixCB b1 else cbInstr b1)
    | e => some (e.instr b1 b2)

end Sys2Proof
end

