-- ==== Sys2Proof/Machine/Fetch.lean ====
section
/-! DEFINITION. Fetching an instruction (30_encoding.md R141) and placing one where it will be fetched. -/

namespace Sys2Proof.Machine

/-- Fetch the opcode and the bytes its length asks for, each in its own M-cycle, and decode them (R141, R145). In every
rule of the instruction set the operand bytes are fetched first, so they are fetched here. -/
def State.fetchInstr (s : State) : Instr × State :=
  let f := s.fetchOpcode
  match instrLength f.1 with
  | 1 => (decodeBytes f.1 0 0, f.2)
  | 2 => let g := f.2.fetch8; (decodeBytes f.1 g.1 0, g.2)
  | _ => let g := f.2.fetch8; let h := g.2.fetch8; (decodeBytes f.1 g.1 h.1, h.2)

/-- Put a byte into the memory that a fetch at this address reads: boot ROM, cartridge ROM, a RAM or IE. An address
without a memory of the block behind it keeps what it has (log entry 10). -/
def State.placeByte (s : State) (a : Word) (v : Byte) : State :=
  match s.target a with
  | .boot off => { s with bootRom := s.bootRom.write off v }
  | .cart b =>
    match s.cart with
    | .noMbc rom => if b.toNat < 0x8000 then { s with cart := .noMbc (rom.write b.toNat v) } else s
    | .other => s
  | .unusable _ => s
  | .io _ => s
  | t => s.writeTarget v t

/-- Three bytes at PC, in a CPU that is not halted and not about to fetch a byte twice: what the next step needs to
fetch and run the instruction they begin with (log entry 10). -/
def State.placeInstr (s : State) (p : Byte × Byte × Byte) : State :=
  let t := ((s.placeByte s.cpu.pc p.1).placeByte (s.cpu.pc + 1) p.2.1).placeByte (s.cpu.pc + 2) p.2.2
  (t.setHalted false).setHaltBug false

end Sys2Proof.Machine
end

