-- ==== Sys2Proof/Machine/CpuStep.lean ====
section
/-! DEFINITION. The CPU step (60_exceptions.md R350). -/

namespace Sys2Proof.Machine

/-- `Step()` (R350): one instruction, or one M-cycle of halt, and then at most one interrupt dispatch. A fault ends
the step (R326, R353). -/
def cpuStep (s : State) : Result :=
  let t := s.beginStep
  if t.cpu.halted then t.idle.endStep
  else
    let f := t.fetchInstr
    match exec f.1 f.2 with
    | .next u => (u.promoteIme (decide (t.cpu.ime = .pending))).endStep
    | .fault r => .fault r
    | .refused r => .refused r

end Sys2Proof.Machine
end

