-- ==== Sys2Proof/Machine/Step.lean ====
section
/-! DEFINITION. The step function, and the state whose next step runs a given instruction. -/

namespace Sys2Proof.Machine

/-- One CPU step (60_exceptions.md R350). -/
def step (s : State) : Host.Outcome State Fault Refusal := cpuStep s

/-- `s` with the instruction whose `nbits` bits are `w` stored where the next step fetches (log entry 10). -/
def State.withFetchWord (s : State) (nbits w : Nat) : State := s.placeInstr (tableBytes nbits w)

end Sys2Proof.Machine
end

