-- ==== Sys2Proof/Machine/HostOps.lean ====
section
/-! DEFINITION. What the host does between steps (70_reset_and_hazards.md R580 to R583, R600 to R604): buttons, the
launch and `reset()` in its two forms, a frame, and what it may observe. -/

namespace Sys2Proof.Machine

/-! ## Buttons (R411, R600) -/

/-- One of the eight buttons. -/
inductive Button where
  | a | b | select | start | right | left | up | down
deriving DecidableEq, Repr

/-- The buttons with one of them held or released. -/
def Buttons.set (bs : Buttons) (k : Button) (held : Bool) : Buttons :=
  match k with
  | .a => { bs with a := held }
  | .b => { bs with b := held }
  | .select => { bs with select := held }
  | .start => { bs with start := held }
  | .right => { bs with right := held }
  | .left => { bs with left := held }
  | .up => { bs with up := held }
  | .down => { bs with down := held }

/-- `joypad_button_down(b)` and `joypad_button_up(b)` (R411, R600): the host changes what is held, nothing else. -/
def State.setButton (s : State) (k : Button) (held : Bool) : State := { s with buttons := s.buttons.set k held }

/-! ## Where a step leaves the block -/

/-- Where the check at the end of a step leaves the block, also when the interrupt it takes faults: the pushes of R351
have happened then (R353). -/
def State.afterEnd (s : State) : State :=
  match s.endStep with
  | .next t => t
  | .fault _ => (s.setHalted false).dispatchCycles
  | .refused _ => s

/-- Where a step leaves the block, also one that ends in a fault: the fetches have happened (R326), or the pushes
(R353). No step runs from a fault; the host may look, and may reset (R580, log entry 31). -/
def State.afterStep (s : State) : State :=
  let t := s.beginStep
  if t.cpu.halted then t.idle.afterEnd
  else
    let f := t.fetchInstr
    match exec f.1 f.2 with
    | .next u => (u.promoteIme (decide (t.cpu.ime = .pending))).afterEnd
    | .fault _ => f.2
    | .refused _ => f.2

/-! ## Reset (R580 to R583) -/

/-- What R583 leaves unspecified besides what R581 does, and the pipeline that goes with a place in the middle of mode 3
(log entry 34). -/
structure PostBootArgs where
  obp0 : Byte
  obp1 : Byte
  counter : Word
  ly : Byte
  mode : PpuMode
  dot : Nat
  pipe : Pipeline
deriving DecidableEq, Repr

/-- The place on the screen is one of the schedule (R480, R583): mode 2 in dots 0 to 79 of a visible line, then mode 3
for 172 to 289 dots, then mode 0; mode 1 in the lines below. The pipeline is one that mode 3 can hold (R39). -/
structure PostBootArgs.OnSchedule (x : PostBootArgs) : Prop where
  ly : x.ly.toNat < 154
  dot : x.dot < 456
  vblank : x.mode = .vblank ↔ 144 ≤ x.ly.toNat
  oamScan : x.mode = .oamScan → x.dot < 80
  drawing : x.mode = .drawing → 80 ≤ x.dot ∧ x.dot < 80 + 289
  hblank : x.mode = .hblank → 80 + 172 ≤ x.dot
  lx : x.pipe.lx < 160
  bgFifo : x.pipe.bgFifo.length ≤ 8
  objFifo : x.pipe.objFifo.length ≤ 8
  discard : x.pipe.discard ≤ 7

/-- The CPU after the post-boot form (R583). -/
def Cpu.postBoot (m : Model) (c : Cpu) : Cpu :=
  match m with
  | .dmg =>
    { c with a := 0x01, f := Flags.ofByte 0xB0, b := 0x00, c := 0x13, d := 0x00, e := 0xD8, h := 0x01, l := 0x4D,
             sp := 0xFFFE, pc := 0x0100 }
  | .cgb =>
    { c with a := 0x11, f := Flags.ofByte 0x80, b := 0x00, c := 0x00, d := 0xFF, e := 0x56, h := 0x00, l := 0x0D,
             sp := 0xFFFE, pc := 0x0100 }

/-- The PPU after the post-boot form (R38, R583): its place on the screen is the caller's. -/
def Ppu.postBoot (x : PostBootArgs) (p : Ppu) : Ppu :=
  { p with lcdc := 0x91, bgp := 0xFC, obp0 := x.obp0, obp1 := x.obp1, ly := x.ly, mode := x.mode, dot := x.dot,
           pipe := x.pipe }

/-- The post-boot form of reset (R583; the values are the spec's general knowledge, log entry 13). -/
def State.postBoot (k : Launch) (x : PostBootArgs) : State :=
  let s := State.powerOn k
  { s with
    params := { k.params with resetForm := .postBoot }
    cpu := s.cpu.postBoot k.params.model
    irq := { s.irq with flags := 0b00001 }
    timer := { s.timer with counter := x.counter }
    oamDma := { s.oamDma with page := match k.params.model with | .dmg => 0xFF | .cgb => 0x00 }
    ppu := s.ppu.postBoot x
    bootMapped := false }

/-- The launch state (R580, R600): the form that the arguments name, every unspecified part the caller's. -/
def State.load (k : Launch) (x : PostBootArgs) : State :=
  match k.params.resetForm with
  | .powerOn => State.powerOn k
  | .postBoot => State.postBoot k x

/-- What `reset()` launches with: the arguments, the cartridge, the boot ROM and the host's buttons are those the
machine has, everything unspecified is the caller's again (R582, log entry 26). -/
def State.relaunch (s : State) (k : Launch) : Launch :=
  { k with params := s.params, cart := s.cart, bootRom := s.bootRom, buttons := s.buttons, inputs := s.inputs }

/-- `reset()` (R580, R582) of a machine that stands at `s`, between steps or in a fault (`s` is then a `State.afterStep`):
the form that was loaded is applied again; what the serial sink received stays. -/
def State.hostReset (s : State) (k : Launch) (x : PostBootArgs) : State :=
  { State.load (s.relaunch k) x with serialOut := s.serialOut }

/-! ## A frame (R602) -/

/-- The M-cycles of a frame at the present speed: the budget of `run_frame()` (R596, R602). -/
def State.frameBudget (s : State) : Nat := if s.doubleSpeed then 2 * Config.frameMcycles else Config.frameMcycles

/-- `run_frame()` ends at this step boundary: a `frame_done` event was raised since `frames` were counted, or, with the LCD
off, so that no event can occur, the budget has elapsed since `start` (R602, 90_conflicts.md C12). That LCDC bit 7 and the
speed are those at the boundary is a DESIGN CHOICE (log entry 33). -/
def State.frameEnds (frames start : Nat) (s : State) : Bool :=
  decide (s.framesDone ≠ frames) || (!s.ppu.lcdOn && decide (start + s.frameBudget ≤ s.mcycles))

/-- Steps until the frame ends, `none` if it has not within `n` steps. -/
def runFrameFrom (frames start : Nat) : Nat → State → Option Result
  | 0, _ => none
  | n + 1, s =>
    match step s with
    | .next t => if t.frameEnds frames start then some (.next t) else runFrameFrom frames start n t
    | .fault r => some (.fault r)
    | .refused r => some (.refused r)

/-- `run_frame()` (R602) followed for `n` steps: where it ended, or `none` while it still runs (log entry 27). -/
def runFrame (n : Nat) (s : State) : Option Result := runFrameFrom s.framesDone s.mcycles n s

/-! ## What the host observes (R603, R604) -/

/-- The pixel at column `x` of line `y` of the screen (R604, R487). -/
def State.pixel (s : State) (x y : Nat) : Pixel := Sparse.read s.frameBuffer (160 * y + x)

/-- The last step fetched the opcode `0x40`, the `LD B,B` at which the test programs end (R603). -/
def State.ranSentinel (s : State) : Bool :=
  match s.trace.getLast? with
  | some (.read _ v) => decide (v = 0x40)
  | _ => false

end Sys2Proof.Machine
end

