-- ==== Sys2Proof/Tables.lean ====
section
/-! DEFINITION. Two published columns of spec/opcode_table.json, one row per instruction: `mcycles`
(70_reset_and_hazards.md R595) and `flags` (42_alu8.md R210). Statements compare the machine with them; the machine
does not use them. -/

namespace Sys2Proof

/-- The M-cycles of an instruction, fetches included. A conditional control transfer takes the longer count when its
condition holds of the flags `f` (R143, R300). `STOP` is counted without a speed switch; `PREFIX_CB` has the count of
the CB-table instruction that `CB op2` is. -/
def Instr.mcycles (i : Instr) (f : Machine.Flags) : Nat :=
  match i with
  | .nop => 1
  | .ldBCnn _ => 3
  | .ldMemBCA => 2
  | .incBC => 2
  | .incB => 1
  | .decB => 1
  | .ldBn _ => 2
  | .rlca => 1
  | .ldMemNnSP _ => 5
  | .addHLBC => 2
  | .ldAMemBC => 2
  | .decBC => 2
  | .incC => 1
  | .decC => 1
  | .ldCn _ => 2
  | .rrca => 1
  | .stop => 1
  | .ldDEnn _ => 3
  | .ldMemDEA => 2
  | .incDE => 2
  | .incD => 1
  | .decD => 1
  | .ldDn _ => 2
  | .rla => 1
  | .jre _ => 3
  | .addHLDE => 2
  | .ldAMemDE => 2
  | .decDE => 2
  | .incE => 1
  | .decE => 1
  | .ldEn _ => 2
  | .rra => 1
  | .jrNZe _ => if f.z then 2 else 3
  | .ldHLnn _ => 3
  | .ldMemHLIncA => 2
  | .incHL => 2
  | .incH => 1
  | .decH => 1
  | .ldHn _ => 2
  | .daa => 1
  | .jrZe _ => if f.z then 3 else 2
  | .addHLHL => 2
  | .ldAMemHLInc => 2
  | .decHL => 2
  | .incL => 1
  | .decL => 1
  | .ldLn _ => 2
  | .cpl => 1
  | .jrNCe _ => if f.c then 2 else 3
  | .ldSPnn _ => 3
  | .ldMemHLDecA => 2
  | .incSP => 2
  | .incMemHL => 3
  | .decMemHL => 3
  | .ldMemHLn _ => 3
  | .scf => 1
  | .jrCe _ => if f.c then 3 else 2
  | .addHLSP => 2
  | .ldAMemHLDec => 2
  | .decSP => 2
  | .incA => 1
  | .decA => 1
  | .ldAn _ => 2
  | .ccf => 1
  | .ldBB => 1
  | .ldBC => 1
  | .ldBD => 1
  | .ldBE => 1
  | .ldBH => 1
  | .ldBL => 1
  | .ldBMemHL => 2
  | .ldBA => 1
  | .ldCB => 1
  | .ldCC => 1
  | .ldCD => 1
  | .ldCE => 1
  | .ldCH => 1
  | .ldCL => 1
  | .ldCMemHL => 2
  | .ldCA => 1
  | .ldDB => 1
  | .ldDC => 1
  | .ldDD => 1
  | .ldDE => 1
  | .ldDH => 1
  | .ldDL => 1
  | .ldDMemHL => 2
  | .ldDA => 1
  | .ldEB => 1
  | .ldEC => 1
  | .ldED => 1
  | .ldEE => 1
  | .ldEH => 1
  | .ldEL => 1
  | .ldEMemHL => 2
  | .ldEA => 1
  | .ldHB => 1
  | .ldHC => 1
  | .ldHD => 1
  | .ldHE => 1
  | .ldHH => 1
  | .ldHL => 1
  | .ldHMemHL => 2
  | .ldHA => 1
  | .ldLB => 1
  | .ldLC => 1
  | .ldLD => 1
  | .ldLE => 1
  | .ldLH => 1
  | .ldLL => 1
  | .ldLMemHL => 2
  | .ldLA => 1
  | .ldMemHLB => 2
  | .ldMemHLC => 2
  | .ldMemHLD => 2
  | .ldMemHLE => 2
  | .ldMemHLH => 2
  | .ldMemHLL => 2
  | .halt => 1
  | .ldMemHLA => 2
  | .ldAB => 1
  | .ldAC => 1
  | .ldAD => 1
  | .ldAE => 1
  | .ldAH => 1
  | .ldAL => 1
  | .ldAMemHL => 2
  | .ldAA => 1
  | .addAB => 1
  | .addAC => 1
  | .addAD => 1
  | .addAE => 1
  | .addAH => 1
  | .addAL => 1
  | .addAMemHL => 2
  | .addAA => 1
  | .adcAB => 1
  | .adcAC => 1
  | .adcAD => 1
  | .adcAE => 1
  | .adcAH => 1
  | .adcAL => 1
  | .adcAMemHL => 2
  | .adcAA => 1
  | .subB => 1
  | .subC => 1
  | .subD => 1
  | .subE => 1
  | .subH => 1
  | .subL => 1
  | .subMemHL => 2
  | .subA => 1
  | .sbcAB => 1
  | .sbcAC => 1
  | .sbcAD => 1
  | .sbcAE => 1
  | .sbcAH => 1
  | .sbcAL => 1
  | .sbcAMemHL => 2
  | .sbcAA => 1
  | .andB => 1
  | .andC => 1
  | .andD => 1
  | .andE => 1
  | .andH => 1
  | .andL => 1
  | .andMemHL => 2
  | .andA => 1
  | .xorB => 1
  | .xorC => 1
  | .xorD => 1
  | .xorE => 1
  | .xorH => 1
  | .xorL => 1
  | .xorMemHL => 2
  | .xorA => 1
  | .orB => 1
  | .orC => 1
  | .orD => 1
  | .orE => 1
  | .orH => 1
  | .orL => 1
  | .orMemHL => 2
  | .orA => 1
  | .cpB => 1
  | .cpC => 1
  | .cpD => 1
  | .cpE => 1
  | .cpH => 1
  | .cpL => 1
  | .cpMemHL => 2
  | .cpA => 1
  | .retNZ => if f.z then 2 else 5
  | .popBC => 3
  | .jpNZnn _ => if f.z then 3 else 4
  | .jpnn _ => 4
  | .callNZnn _ => if f.z then 3 else 6
  | .pushBC => 4
  | .addAn _ => 2
  | .rst00 => 4
  | .retZ => if f.z then 5 else 2
  | .ret => 4
  | .jpZnn _ => if f.z then 4 else 3
  | .prefixCB op2 => if op2.toNat % 8 ≠ 6 then 2 else if op2.toNat / 64 = 1 then 3 else 4
  | .callZnn _ => if f.z then 6 else 3
  | .callnn _ => 6
  | .adcAn _ => 2
  | .rst08 => 4
  | .retNC => if f.c then 2 else 5
  | .popDE => 3
  | .jpNCnn _ => if f.c then 3 else 4
  | .illegalD3 => 1
  | .callNCnn _ => if f.c then 3 else 6
  | .pushDE => 4
  | .subn _ => 2
  | .rst10 => 4
  | .retC => if f.c then 5 else 2
  | .reti => 4
  | .jpCnn _ => if f.c then 4 else 3
  | .illegalDB => 1
  | .callCnn _ => if f.c then 6 else 3
  | .illegalDD => 1
  | .sbcAn _ => 2
  | .rst18 => 4
  | .ldhMemNA _ => 3
  | .popHL => 3
  | .ldhMemCA => 2
  | .illegalE3 => 1
  | .illegalE4 => 1
  | .pushHL => 4
  | .andn _ => 2
  | .rst20 => 4
  | .addSPe _ => 4
  | .jpHL => 1
  | .ldMemNnA _ => 4
  | .illegalEB => 1
  | .illegalEC => 1
  | .illegalED => 1
  | .xorn _ => 2
  | .rst28 => 4
  | .ldhAMemN _ => 3
  | .popAF => 3
  | .ldhAMemC => 2
  | .di => 1
  | .illegalF4 => 1
  | .pushAF => 4
  | .orn _ => 2
  | .rst30 => 4
  | .ldHLSPe _ => 3
  | .ldSPHL => 2
  | .ldAMemNn _ => 4
  | .ei => 1
  | .illegalFC => 1
  | .illegalFD => 1
  | .cpn _ => 2
  | .rst38 => 4
  | .rlcB => 2
  | .rlcC => 2
  | .rlcD => 2
  | .rlcE => 2
  | .rlcH => 2
  | .rlcL => 2
  | .rlcMemHL => 4
  | .rlcA => 2
  | .rrcB => 2
  | .rrcC => 2
  | .rrcD => 2
  | .rrcE => 2
  | .rrcH => 2
  | .rrcL => 2
  | .rrcMemHL => 4
  | .rrcA => 2
  | .rlB => 2
  | .rlC => 2
  | .rlD => 2
  | .rlE => 2
  | .rlH => 2
  | .rlL => 2
  | .rlMemHL => 4
  | .rlA => 2
  | .rrB => 2
  | .rrC => 2
  | .rrD => 2
  | .rrE => 2
  | .rrH => 2
  | .rrL => 2
  | .rrMemHL => 4
  | .rrA => 2
  | .slaB => 2
  | .slaC => 2
  | .slaD => 2
  | .slaE => 2
  | .slaH => 2
  | .slaL => 2
  | .slaMemHL => 4
  | .slaA => 2
  | .sraB => 2
  | .sraC => 2
  | .sraD => 2
  | .sraE => 2
  | .sraH => 2
  | .sraL => 2
  | .sraMemHL => 4
  | .sraA => 2
  | .swapB => 2
  | .swapC => 2
  | .swapD => 2
  | .swapE => 2
  | .swapH => 2
  | .swapL => 2
  | .swapMemHL => 4
  | .swapA => 2
  | .srlB => 2
  | .srlC => 2
  | .srlD => 2
  | .srlE => 2
  | .srlH => 2
  | .srlL => 2
  | .srlMemHL => 4
  | .srlA => 2
  | .bit0B => 2
  | .bit0C => 2
  | .bit0D => 2
  | .bit0E => 2
  | .bit0H => 2
  | .bit0L => 2
  | .bit0MemHL => 3
  | .bit0A => 2
  | .bit1B => 2
  | .bit1C => 2
  | .bit1D => 2
  | .bit1E => 2
  | .bit1H => 2
  | .bit1L => 2
  | .bit1MemHL => 3
  | .bit1A => 2
  | .bit2B => 2
  | .bit2C => 2
  | .bit2D => 2
  | .bit2E => 2
  | .bit2H => 2
  | .bit2L => 2
  | .bit2MemHL => 3
  | .bit2A => 2
  | .bit3B => 2
  | .bit3C => 2
  | .bit3D => 2
  | .bit3E => 2
  | .bit3H => 2
  | .bit3L => 2
  | .bit3MemHL => 3
  | .bit3A => 2
  | .bit4B => 2
  | .bit4C => 2
  | .bit4D => 2
  | .bit4E => 2
  | .bit4H => 2
  | .bit4L => 2
  | .bit4MemHL => 3
  | .bit4A => 2
  | .bit5B => 2
  | .bit5C => 2
  | .bit5D => 2
  | .bit5E => 2
  | .bit5H => 2
  | .bit5L => 2
  | .bit5MemHL => 3
  | .bit5A => 2
  | .bit6B => 2
  | .bit6C => 2
  | .bit6D => 2
  | .bit6E => 2
  | .bit6H => 2
  | .bit6L => 2
  | .bit6MemHL => 3
  | .bit6A => 2
  | .bit7B => 2
  | .bit7C => 2
  | .bit7D => 2
  | .bit7E => 2
  | .bit7H => 2
  | .bit7L => 2
  | .bit7MemHL => 3
  | .bit7A => 2
  | .res0B => 2
  | .res0C => 2
  | .res0D => 2
  | .res0E => 2
  | .res0H => 2
  | .res0L => 2
  | .res0MemHL => 4
  | .res0A => 2
  | .res1B => 2
  | .res1C => 2
  | .res1D => 2
  | .res1E => 2
  | .res1H => 2
  | .res1L => 2
  | .res1MemHL => 4
  | .res1A => 2
  | .res2B => 2
  | .res2C => 2
  | .res2D => 2
  | .res2E => 2
  | .res2H => 2
  | .res2L => 2
  | .res2MemHL => 4
  | .res2A => 2
  | .res3B => 2
  | .res3C => 2
  | .res3D => 2
  | .res3E => 2
  | .res3H => 2
  | .res3L => 2
  | .res3MemHL => 4
  | .res3A => 2
  | .res4B => 2
  | .res4C => 2
  | .res4D => 2
  | .res4E => 2
  | .res4H => 2
  | .res4L => 2
  | .res4MemHL => 4
  | .res4A => 2
  | .res5B => 2
  | .res5C => 2
  | .res5D => 2
  | .res5E => 2
  | .res5H => 2
  | .res5L => 2
  | .res5MemHL => 4
  | .res5A => 2
  | .res6B => 2
  | .res6C => 2
  | .res6D => 2
  | .res6E => 2
  | .res6H => 2
  | .res6L => 2
  | .res6MemHL => 4
  | .res6A => 2
  | .res7B => 2
  | .res7C => 2
  | .res7D => 2
  | .res7E => 2
  | .res7H => 2
  | .res7L => 2
  | .res7MemHL => 4
  | .res7A => 2
  | .set0B => 2
  | .set0C => 2
  | .set0D => 2
  | .set0E => 2
  | .set0H => 2
  | .set0L => 2
  | .set0MemHL => 4
  | .set0A => 2
  | .set1B => 2
  | .set1C => 2
  | .set1D => 2
  | .set1E => 2
  | .set1H => 2
  | .set1L => 2
  | .set1MemHL => 4
  | .set1A => 2
  | .set2B => 2
  | .set2C => 2
  | .set2D => 2
  | .set2E => 2
  | .set2H => 2
  | .set2L => 2
  | .set2MemHL => 4
  | .set2A => 2
  | .set3B => 2
  | .set3C => 2
  | .set3D => 2
  | .set3E => 2
  | .set3H => 2
  | .set3L => 2
  | .set3MemHL => 4
  | .set3A => 2
  | .set4B => 2
  | .set4C => 2
  | .set4D => 2
  | .set4E => 2
  | .set4H => 2
  | .set4L => 2
  | .set4MemHL => 4
  | .set4A => 2
  | .set5B => 2
  | .set5C => 2
  | .set5D => 2
  | .set5E => 2
  | .set5H => 2
  | .set5L => 2
  | .set5MemHL => 4
  | .set5A => 2
  | .set6B => 2
  | .set6C => 2
  | .set6D => 2
  | .set6E => 2
  | .set6H => 2
  | .set6L => 2
  | .set6MemHL => 4
  | .set6A => 2
  | .set7B => 2
  | .set7C => 2
  | .set7D => 2
  | .set7E => 2
  | .set7H => 2
  | .set7L => 2
  | .set7MemHL => 4
  | .set7A => 2

/-- What an instruction does to one flag: the characters `-`, `0`, `1` and a letter of the table's column. -/
inductive FlagEffect where
  | keep
  | clear
  | set
  | computed
deriving DecidableEq, Repr

/-- The flag may go from `old` to `new`. -/
def FlagEffect.allows (x : FlagEffect) (old new : Bool) : Prop :=
  match x with
  | .keep => new = old
  | .clear => new = false
  | .set => new = true
  | .computed => True

/-- The four characters of the column, for Z, N, H, C. -/
structure FlagColumn where
  z : FlagEffect
  n : FlagEffect
  h : FlagEffect
  c : FlagEffect
deriving DecidableEq, Repr

/-- The column `flags`. The row `PREFIX_CB` stands for every CB-table instruction, so its flags are computed. -/
def Instr.flagColumn : Instr → FlagColumn
  | .nop | .ldBCnn _ | .ldMemBCA | .incBC | .ldBn _ | .ldMemNnSP _ | .ldAMemBC | .decBC | .ldCn _ | .stop
  | .ldDEnn _ | .ldMemDEA | .incDE | .ldDn _ | .jre _ | .ldAMemDE | .decDE | .ldEn _ | .jrNZe _ | .ldHLnn _
  | .ldMemHLIncA | .incHL | .ldHn _ | .jrZe _ | .ldAMemHLInc | .decHL | .ldLn _ | .jrNCe _ | .ldSPnn _
  | .ldMemHLDecA | .incSP | .ldMemHLn _ | .jrCe _ | .ldAMemHLDec | .decSP | .ldAn _ | .ldBB | .ldBC | .ldBD
  | .ldBE | .ldBH | .ldBL | .ldBMemHL | .ldBA | .ldCB | .ldCC | .ldCD | .ldCE | .ldCH | .ldCL | .ldCMemHL | .ldCA
  | .ldDB | .ldDC | .ldDD | .ldDE | .ldDH | .ldDL | .ldDMemHL | .ldDA | .ldEB | .ldEC | .ldED | .ldEE | .ldEH
  | .ldEL | .ldEMemHL | .ldEA | .ldHB | .ldHC | .ldHD | .ldHE | .ldHH | .ldHL | .ldHMemHL | .ldHA | .ldLB | .ldLC
  | .ldLD | .ldLE | .ldLH | .ldLL | .ldLMemHL | .ldLA | .ldMemHLB | .ldMemHLC | .ldMemHLD | .ldMemHLE | .ldMemHLH
  | .ldMemHLL | .halt | .ldMemHLA | .ldAB | .ldAC | .ldAD | .ldAE | .ldAH | .ldAL | .ldAMemHL | .ldAA | .retNZ
  | .popBC | .jpNZnn _ | .jpnn _ | .callNZnn _ | .pushBC | .rst00 | .retZ | .ret | .jpZnn _ | .callZnn _
  | .callnn _ | .rst08 | .retNC | .popDE | .jpNCnn _ | .illegalD3 | .callNCnn _ | .pushDE | .rst10 | .retC
  | .reti | .jpCnn _ | .illegalDB | .callCnn _ | .illegalDD | .rst18 | .ldhMemNA _ | .popHL | .ldhMemCA
  | .illegalE3 | .illegalE4 | .pushHL | .rst20 | .jpHL | .ldMemNnA _ | .illegalEB | .illegalEC | .illegalED
  | .rst28 | .ldhAMemN _ | .ldhAMemC | .di | .illegalF4 | .pushAF | .rst30 | .ldSPHL | .ldAMemNn _ | .ei
  | .illegalFC | .illegalFD | .rst38 | .res0B | .res0C | .res0D | .res0E | .res0H | .res0L | .res0MemHL | .res0A
  | .res1B | .res1C | .res1D | .res1E | .res1H | .res1L | .res1MemHL | .res1A | .res2B | .res2C | .res2D | .res2E
  | .res2H | .res2L | .res2MemHL | .res2A | .res3B | .res3C | .res3D | .res3E | .res3H | .res3L | .res3MemHL
  | .res3A | .res4B | .res4C | .res4D | .res4E | .res4H | .res4L | .res4MemHL | .res4A | .res5B | .res5C | .res5D
  | .res5E | .res5H | .res5L | .res5MemHL | .res5A | .res6B | .res6C | .res6D | .res6E | .res6H | .res6L
  | .res6MemHL | .res6A | .res7B | .res7C | .res7D | .res7E | .res7H | .res7L | .res7MemHL | .res7A | .set0B
  | .set0C | .set0D | .set0E | .set0H | .set0L | .set0MemHL | .set0A | .set1B | .set1C | .set1D | .set1E | .set1H
  | .set1L | .set1MemHL | .set1A | .set2B | .set2C | .set2D | .set2E | .set2H | .set2L | .set2MemHL | .set2A
  | .set3B | .set3C | .set3D | .set3E | .set3H | .set3L | .set3MemHL | .set3A | .set4B | .set4C | .set4D | .set4E
  | .set4H | .set4L | .set4MemHL | .set4A | .set5B | .set5C | .set5D | .set5E | .set5H | .set5L | .set5MemHL
  | .set5A | .set6B | .set6C | .set6D | .set6E | .set6H | .set6L | .set6MemHL | .set6A | .set7B | .set7C | .set7D
  | .set7E | .set7H | .set7L | .set7MemHL | .set7A =>
    ⟨.keep, .keep, .keep, .keep⟩
  | .incB | .incC | .incD | .incE | .incH | .incL | .incMemHL | .incA =>
    ⟨.computed, .clear, .computed, .keep⟩
  | .decB | .decC | .decD | .decE | .decH | .decL | .decMemHL | .decA =>
    ⟨.computed, .set, .computed, .keep⟩
  | .rlca | .rrca | .rla | .rra =>
    ⟨.clear, .clear, .clear, .computed⟩
  | .addHLBC | .addHLDE | .addHLHL | .addHLSP =>
    ⟨.keep, .clear, .computed, .computed⟩
  | .daa =>
    ⟨.computed, .keep, .clear, .computed⟩
  | .cpl =>
    ⟨.keep, .set, .set, .keep⟩
  | .scf =>
    ⟨.keep, .clear, .clear, .set⟩
  | .ccf =>
    ⟨.keep, .clear, .clear, .computed⟩
  | .addAB | .addAC | .addAD | .addAE | .addAH | .addAL | .addAMemHL | .addAA | .adcAB | .adcAC | .adcAD | .adcAE
  | .adcAH | .adcAL | .adcAMemHL | .adcAA | .addAn _ | .adcAn _ =>
    ⟨.computed, .clear, .computed, .computed⟩
  | .subB | .subC | .subD | .subE | .subH | .subL | .subMemHL | .subA | .sbcAB | .sbcAC | .sbcAD | .sbcAE
  | .sbcAH | .sbcAL | .sbcAMemHL | .sbcAA | .cpB | .cpC | .cpD | .cpE | .cpH | .cpL | .cpMemHL | .cpA | .subn _
  | .sbcAn _ | .cpn _ =>
    ⟨.computed, .set, .computed, .computed⟩
  | .andB | .andC | .andD | .andE | .andH | .andL | .andMemHL | .andA | .andn _ =>
    ⟨.computed, .clear, .set, .clear⟩
  | .xorB | .xorC | .xorD | .xorE | .xorH | .xorL | .xorMemHL | .xorA | .orB | .orC | .orD | .orE | .orH | .orL
  | .orMemHL | .orA | .xorn _ | .orn _ | .swapB | .swapC | .swapD | .swapE | .swapH | .swapL | .swapMemHL
  | .swapA =>
    ⟨.computed, .clear, .clear, .clear⟩
  | .prefixCB _ | .popAF =>
    ⟨.computed, .computed, .computed, .computed⟩
  | .addSPe _ | .ldHLSPe _ =>
    ⟨.clear, .clear, .computed, .computed⟩
  | .rlcB | .rlcC | .rlcD | .rlcE | .rlcH | .rlcL | .rlcMemHL | .rlcA | .rrcB | .rrcC | .rrcD | .rrcE | .rrcH
  | .rrcL | .rrcMemHL | .rrcA | .rlB | .rlC | .rlD | .rlE | .rlH | .rlL | .rlMemHL | .rlA | .rrB | .rrC | .rrD
  | .rrE | .rrH | .rrL | .rrMemHL | .rrA | .slaB | .slaC | .slaD | .slaE | .slaH | .slaL | .slaMemHL | .slaA
  | .sraB | .sraC | .sraD | .sraE | .sraH | .sraL | .sraMemHL | .sraA | .srlB | .srlC | .srlD | .srlE | .srlH
  | .srlL | .srlMemHL | .srlA =>
    ⟨.computed, .clear, .clear, .computed⟩
  | .bit0B | .bit0C | .bit0D | .bit0E | .bit0H | .bit0L | .bit0MemHL | .bit0A | .bit1B | .bit1C | .bit1D | .bit1E
  | .bit1H | .bit1L | .bit1MemHL | .bit1A | .bit2B | .bit2C | .bit2D | .bit2E | .bit2H | .bit2L | .bit2MemHL
  | .bit2A | .bit3B | .bit3C | .bit3D | .bit3E | .bit3H | .bit3L | .bit3MemHL | .bit3A | .bit4B | .bit4C | .bit4D
  | .bit4E | .bit4H | .bit4L | .bit4MemHL | .bit4A | .bit5B | .bit5C | .bit5D | .bit5E | .bit5H | .bit5L
  | .bit5MemHL | .bit5A | .bit6B | .bit6C | .bit6D | .bit6E | .bit6H | .bit6L | .bit6MemHL | .bit6A | .bit7B
  | .bit7C | .bit7D | .bit7E | .bit7H | .bit7L | .bit7MemHL | .bit7A =>
    ⟨.computed, .clear, .set, .keep⟩

end Sys2Proof
end

