-- ==== Sys2Proof/Safety.lean ====
section
/-! DEFINITION. What a safe run keeps, and the words statements are made of: the invariant of the machine, what an
instruction leaves unchanged, and the operand forms of the instruction set as data. -/

namespace Sys2Proof.Machine

/-! ## The invariant -/

/-- Every memory of R30 is in its canonical form and within its size (log entry 7). -/
structure State.MemoriesOk (s : State) : Prop where
  vram : s.vram.wf = true ∧ s.vram.below 0x4000 = true
  oam : s.oam.wf = true ∧ s.oam.below 0xA0 = true
  wram : s.wram.wf = true ∧ s.wram.below 0x8000 = true
  hram : s.hram.wf = true ∧ s.hram.below 0x7F = true
  bgCram : s.bgCram.wf = true ∧ s.bgCram.below 0x40 = true
  objCram : s.objCram.wf = true ∧ s.objCram.below 0x40 = true
  frameBuffer : Sparse.wf s.frameBuffer = true ∧ Sparse.below (160 * 144) s.frameBuffer = true

/-- The PPU's schedule and its buffers (R39, R480, R486, R500, R502, R510). -/
structure Ppu.Ok (p : Ppu) : Prop where
  dot : p.dot < 456
  ly : p.ly.toNat < 154
  vblank : p.mode = .vblank ↔ 144 ≤ p.ly.toNat
  drawing : p.mode = .drawing → p.pipe.lx < 160
  off : p.lcdOn = false → p.mode = .hblank ∧ p.ly = 0 ∧ p.dot = 0
  sprites : p.lineSprites.length ≤ 10
  bgFifo : p.pipe.bgFifo.length ≤ 8
  objFifo : p.pipe.objFifo.length ≤ 8
  discard : p.pipe.discard ≤ 7

/-- The DMA engines' counters (R36, R37, R432, R452). -/
structure State.DmaOk (s : State) : Prop where
  offset : s.oamDma.offset ≤ 0xA0
  active : s.oamDma.status = .active → s.oamDma.offset < 0xA0
  remaining : s.vdma.remaining ≤ 128

/-- What is clear between M-cycles (R32, R110). -/
structure State.Settled (s : State) : Prop where
  req : s.irq.req = 0
  dmaWritten : s.oamDma.writtenThisCycle = false

/-- On `Dmg` the state of the colour model does not exist: it stays as it was at reset (R37, R41, R468). -/
structure State.NoColour (s : State) : Prop where
  doubleSpeed : s.doubleSpeed = false
  key1Armed : s.key1Armed = false
  svbk : s.svbk = 0
  vbk : s.ppu.vbk = 0
  vdmaMode : s.vdma.mode = .idle
  vdmaStall : s.vdma.stallBlocks = 0

/-- The invariant: it holds after reset, and every step keeps it. -/
structure State.Inv (s : State) : Prop where
  memories : s.MemoriesOk
  ppu : s.ppu.Ok
  dma : s.DmaOk
  settled : s.Settled
  noColour : s.params.model = .dmg → s.NoColour

/-! ## What an instruction leaves unchanged -/

/-- Neither DMA engine has a byte to copy, so the CPU is the only one that writes memory. -/
structure State.DmaQuiet (s : State) : Prop where
  oam : s.oamDma.status = .idle
  mode : s.vdma.mode = .idle
  stall : s.vdma.stallBlocks = 0

/-- A target that is a cell of a memory of the block or of the boot ROM. -/
def Target.isCell : Target → Bool
  | .boot _ => true
  | .vram _ => true
  | .wram _ => true
  | .oam _ => true
  | .hram _ => true
  | .cart _ => false
  | .unusable _ => false
  | .io _ => false
  | .ie => false

/-- `t` has every byte of memory that `s` has, but for the targets in `but`: every cell reads as before, and colour
RAM, which the data ports FF69 and FF6B write, the cartridge and the boot ROM are the same. -/
structure KeepsMemory (but : List Target) (s t : State) : Prop where
  cells : ∀ c : Target, c.isCell = true → c ∉ but → t.readTarget c = s.readTarget c
  bgCram : Target.io 0x69 ∉ but → t.bgCram = s.bgCram
  objCram : Target.io 0x6B ∉ but → t.objCram = s.objCram
  cart : t.cart = s.cart
  bootRom : t.bootRom = s.bootRom

/-- `t` has every register outside the CPU that `s` has, but for the targets in `but`. Left out are the registers
that the device tick of an M-cycle itself advances (R110): DIV, TIMA, IF, SB, SC bit 7, LY, the mode bits of STAT, and
the engines' own counters. -/
structure KeepsRegisters (but : List Target) (s t : State) : Prop where
  joypSelect : Target.io 0x00 ∉ but → t.joypad.select = s.joypad.select
  scClock : Target.io 0x02 ∉ but → t.serial.internal = s.serial.internal ∧ t.serial.fast = s.serial.fast
  tma : Target.io 0x06 ∉ but → t.timer.tma = s.timer.tma
  tac : Target.io 0x07 ∉ but → t.timer.tac = s.timer.tac
  lcdc : Target.io 0x40 ∉ but → t.ppu.lcdc = s.ppu.lcdc
  statEnable : Target.io 0x41 ∉ but → t.ppu.statEnable = s.ppu.statEnable
  scy : Target.io 0x42 ∉ but → t.ppu.scy = s.ppu.scy
  scx : Target.io 0x43 ∉ but → t.ppu.scx = s.ppu.scx
  lyc : Target.io 0x45 ∉ but → t.ppu.lyc = s.ppu.lyc
  dma : Target.io 0x46 ∉ but → t.oamDma.page = s.oamDma.page
  bgp : Target.io 0x47 ∉ but → t.ppu.bgp = s.ppu.bgp
  obp0 : Target.io 0x48 ∉ but → t.ppu.obp0 = s.ppu.obp0
  obp1 : Target.io 0x49 ∉ but → t.ppu.obp1 = s.ppu.obp1
  wy : Target.io 0x4A ∉ but → t.ppu.wy = s.ppu.wy
  wx : Target.io 0x4B ∉ but → t.ppu.wx = s.ppu.wx
  key1 : Target.io 0x4D ∉ but → t.key1Armed = s.key1Armed
  vbk : Target.io 0x4F ∉ but → t.ppu.vbk = s.ppu.vbk
  boot : Target.io 0x50 ∉ but → t.bootMapped = s.bootMapped
  hdma1 : Target.io 0x51 ∉ but → t.vdma.hdma1 = s.vdma.hdma1
  hdma2 : Target.io 0x52 ∉ but → t.vdma.hdma2 = s.vdma.hdma2
  hdma3 : Target.io 0x53 ∉ but → t.vdma.hdma3 = s.vdma.hdma3
  hdma4 : Target.io 0x54 ∉ but → t.vdma.hdma4 = s.vdma.hdma4
  bcps : Target.io 0x68 ∉ but → Target.io 0x69 ∉ but → t.ppu.bcps = s.ppu.bcps
  ocps : Target.io 0x6A ∉ but → Target.io 0x6B ∉ but → t.ppu.ocps = s.ppu.ocps
  opri : Target.io 0x6C ∉ but → t.ppu.opri = s.ppu.opri
  svbk : Target.io 0x70 ∉ but → t.svbk = s.svbk
  ie : Target.ie ∉ but → t.irq.ie = s.irq.ie
  doubleSpeed : t.doubleSpeed = s.doubleSpeed
  params : t.params = s.params

/-! ## Operand forms -/

/-- The opcode table's row of `i`: its bytes, and the M-cycles it takes. -/
structure Published (i : Instr) (bytes : List Byte) (mcycles : Nat) : Prop where
  bytes : encode i = bytes
  mcycles : ∀ f : Flags, i.mcycles f = mcycles

/-- The row of a conditional control transfer: the M-cycles when the condition does not hold, and when it does. -/
structure PublishedIf (cc : Cond) (i : Instr) (bytes : List Byte) (notTaken taken : Nat) : Prop where
  bytes : encode i = bytes
  mcycles : ∀ f : Flags, i.mcycles f = if condHolds f cc then taken else notTaken

/-- An opcode byte from its fields `x`, `y`, `z` (R142). -/
def opcode (x : BitVec 2) (y z : BitVec 3) : Byte := x ++ y ++ z

/-- An opcode byte from its fields `x`, `p`, `q`, `z` (R142). -/
def opcodeP (x p : BitVec 2) (q : BitVec 1) (z : BitVec 3) : Byte := x ++ p ++ q ++ z

/-- The CPU with `A` and `F` replaced. -/
def Cpu.withAF (c : Cpu) (v : Byte) (f : Flags) : Cpu := { c with a := v, f := f }

/-- The three forms of the second operand of an accumulator operation (R210). -/
inductive AluSource where
  | reg (r : Reg)
  | mem
  | imm (n : Byte)
deriving DecidableEq, Repr

/-- The instruction with that operand. -/
def AluSource.instr (x : AluSource) (op : AluOp) : Instr :=
  match x with
  | .reg r => .aluReg op r
  | .mem => .aluMem op
  | .imm n => .aluImm op n

/-- The bytes of the instruction (R211 to R234): `10 ooo zzz`, or `11 ooo 110` and `n`. -/
def AluSource.bytes (x : AluSource) (op : AluOp) : List Byte :=
  match x with
  | .reg r => [opcode 0b10 op.code r.code]
  | .mem => [opcode 0b10 op.code memCode]
  | .imm n => [opcode 0b11 op.code memCode, n]

/-- The M-cycles of the form (R210). -/
def AluSource.mcycles : AluSource → Nat
  | .reg _ => 1
  | .mem => 2
  | .imm _ => 2

/-- The operand's value: the `(HL)` form reads the byte at HL. -/
def AluSource.value (x : AluSource) (s : State) : Byte :=
  match x with
  | .reg r => s.cpu.reg r
  | .mem => s.memReadValue s.cpu.hl
  | .imm n => n

/-- The state after the operand is read: one M-cycle later in the `(HL)` form. -/
def AluSource.after (x : AluSource) (s : State) : State :=
  match x with
  | .reg _ => s
  | .mem => s.memReadState s.cpu.hl
  | .imm _ => s

/-- `r` and the flags `f` are what `Add8(a, b, cin)` returns (R210), said by the sums of the bytes and of their low
nibbles. -/
def IsSum (a b : Byte) (cin : Nat) (r : Byte) (f : Flags) : Prop :=
  r.toNat + 256 * f.c.toNat = a.toNat + b.toNat + cin ∧
  r.toNat % 16 + 16 * f.h.toNat = a.toNat % 16 + b.toNat % 16 + cin ∧
  f.z = decide (r = 0) ∧ f.n = false

/-- `r` and the flags `f` are what `Sub8(a, b, cin)` returns (R210). -/
def IsDifference (a b : Byte) (cin : Nat) (r : Byte) (f : Flags) : Prop :=
  r.toNat + b.toNat + cin = a.toNat + 256 * f.c.toNat ∧
  r.toNat % 16 + b.toNat % 16 + cin = a.toNat % 16 + 16 * f.h.toNat ∧
  f.z = decide (r = 0) ∧ f.n = true

/-- Bit `i` of what a rotate, shift or swap makes of `v` with carry `c` (R260). -/
def rotBit (op : RotOp) (v : Byte) (c : Bool) (i : Nat) : Bool :=
  match op with
  | .rlc => if i = 0 then v.getLsbD 7 else v.getLsbD (i - 1)
  | .rrc => if i = 7 then v.getLsbD 0 else v.getLsbD (i + 1)
  | .rl => if i = 0 then c else v.getLsbD (i - 1)
  | .rr => if i = 7 then c else v.getLsbD (i + 1)
  | .sla => if i = 0 then false else v.getLsbD (i - 1)
  | .sra => if i = 7 then v.getLsbD 7 else v.getLsbD (i + 1)
  | .swap => v.getLsbD ((i + 4) % 8)
  | .srl => if i = 7 then false else v.getLsbD (i + 1)

/-- The carry out of a rotate, shift or swap of `v` (R260). -/
def rotCarry (op : RotOp) (v : Byte) : Bool :=
  match op with
  | .rlc => v.getLsbD 7
  | .rrc => v.getLsbD 0
  | .rl => v.getLsbD 7
  | .rr => v.getLsbD 0
  | .sla => v.getLsbD 7
  | .sra => v.getLsbD 0
  | .swap => false
  | .srl => v.getLsbD 0

/-- `r` and the flags `f` are what the CB form of `op` makes of `v` with carry `c` (R260). -/
def IsRotation (op : RotOp) (v : Byte) (c : Bool) (r : Byte) (f : Flags) : Prop :=
  (∀ i < 8, r.getLsbD i = rotBit op v c i) ∧
  f = { z := decide (r = 0), n := false, h := false, c := rotCarry op v }

end Sys2Proof.Machine
end

