-- ==== Sys2Proof/Certificates/Slice0/Obligations.lean ====
section
/-! DEFINITION. The statements for the provers. Each names the rules of spec/ it says, or, where it rests on a choice of
the model, the log entry. A next state is written out: what an M-cycle leaves (`idle`, `memReadState`, `memWrite`,
`push16`, `pop16`) with the CPU's registers replaced, so every register and flag that is not named stays. -/

open Sys2Proof Sys2Proof.Machine

/-! ## Encoding -/

/-- Decoding the bytes of a well-formed instruction gives the instruction, with every operand, and leaves the rest. -/
def Obligations.DecodeOfEncode : Prop :=
  ∀ (i : Instr) (rest : List Byte), WellFormed i → decode (encode i ++ rest) = .ok (i, rest)

/-- What decoding answers is well-formed, and encoding it gives the bytes that were read: no two words decode alike. -/
def Obligations.EncodeOfDecode : Prop :=
  ∀ (bs rest : List Byte) (i : Instr), decode bs = .ok (i, rest) → WellFormed i ∧ bs = encode i ++ rest

/-- A few words written out from the encodings of the spec decode to the instructions they stand for: the register,
immediate, displacement and prefixed formats. -/
def Obligations.WordsDecode : Prop :=
  decode [0b01111000] = .ok (.ldAB, []) ∧
  decode [0b00111110, 0x42] = .ok (.ldAn 0x42, []) ∧
  decode [0b00100001, 0x34, 0x12] = .ok (.ldHLnn 0x1234, []) ∧
  decode [0b10001011] = .ok (.adcAE, []) ∧
  decode [0b00100000, 0xFC] = .ok (.jrNZe 0xFC, []) ∧
  decode [0b11001101, 0x00, 0x02] = .ok (.callnn 0x0200, []) ∧
  decode [0xCB, 0b00110111] = .ok (.swapA, []) ∧
  decode [0xCB, 0b10011110] = .ok (.res3MemHL, []) ∧
  decode [0b11011101] = .ok (.illegalDD, [])

/-- The `CB` prefix runs the instruction of the CB table that its second byte names, which always goes on (R325). -/
def Obligations.PrefixRunsCbTable : Prop :=
  ∀ (op2 : Byte) (s : State),
    decode [0xCB, op2] = .ok (cbInstr op2, []) ∧
    exec (.prefixCB op2) s = exec (cbInstr op2) s ∧
    ∃ t, exec (.prefixCB op2) s = .next t

/-! ## The step -/

/-- When the bytes fetched at PC decode to `i`, the step is `exec i` after those fetches, then the promotion of `IME`
and the check at the step's end (R141, R350). The opcode's fetch leaves PC when a halt bug is pending (R321). -/
def Obligations.StepRunsDecoded : Prop :=
  ∀ (s : State) (i : Instr), s.cpu.halted = false →
    let b := s.beginStep
    let f := b.fetchOpcode
    let g := f.2.fetch8
    let h := g.2.fetch8
    let finish (u : State) : Result :=
      match exec i u with
      | .next t => (t.promoteIme (decide (s.cpu.ime = .pending))).endStep
      | .fault r => .fault r
      | .refused r => .refused r
    (s.cpu.haltBugPending = false → f = (b.memReadValue s.cpu.pc, (b.memReadState s.cpu.pc).setPc (s.cpu.pc + 1))) ∧
    (s.cpu.haltBugPending = true → f = (b.memReadValue s.cpu.pc, (b.memReadState s.cpu.pc).setHaltBug false)) ∧
    (decode [f.1] = .ok (i, []) → step s = finish f.2) ∧
    (decode [f.1, g.1] = .ok (i, []) → step s = finish g.2) ∧
    (decode [f.1, g.1, h.1] = .ok (i, []) → step s = finish h.2)

/-- The eleven illegal bytes: each decodes to its own row, whose meaning is the fault, and fetching one as an opcode ends
the step in it, with the block where the fetch M-cycle left it and PC past the byte (R326). -/
def Obligations.IllegalOpcodesFault : Prop :=
  ∀ p ∈ illegalOpcodes,
    p.1 ∈ ([0xD3, 0xDB, 0xDD, 0xE3, 0xE4, 0xEB, 0xEC, 0xED, 0xF4, 0xFC, 0xFD] : List Byte) ∧
    encode p.2 = [p.1] ∧ decode [p.1] = .ok (p.2, []) ∧
    (∀ s : State, exec p.2 s = .fault (.illegalOpcode p.1)) ∧
    (∀ s : State, s.cpu.halted = false → s.beginStep.memReadValue s.cpu.pc = p.1 →
      step s = .fault (.illegalOpcode p.1) ∧
      (s.cpu.haltBugPending = false → s.afterStep = (s.beginStep.memReadState s.cpu.pc).setPc (s.cpu.pc + 1)))

/-! ## 8-bit and 16-bit loads -/

/-- Register and immediate loads (R171, R172, R200). A register copied to itself changes nothing. -/
def Obligations.LoadRegisters : Prop :=
  ∀ s : State,
    (∀ dst r : Reg,
      Published (.ldRegReg dst r) [opcode 0b01 dst.code r.code] 1 ∧
      exec (.ldRegReg dst r) s = .next { s with cpu := s.cpu.withReg dst (s.cpu.reg r) } ∧
      exec (.ldRegReg r r) s = .next s) ∧
    (∀ (dst : Reg) (n : Byte),
      Published (.ldRegImm dst n) [opcode 0b00 dst.code 0b110, n] 2 ∧
      exec (.ldRegImm dst n) s = .next { s with cpu := s.cpu.withReg dst n }) ∧
    (∀ (p : Pair) (nn : Word),
      Published (.ldPairImm p nn) [opcodeP 0b00 p.code 0 0b001, loByte nn, hiByte nn] 3 ∧
      exec (.ldPairImm p nn) s = .next { s with cpu := s.cpu.withPair p nn })

/-- Loads from memory (R173, R176, R177, R180, R182, R184, R187, R188): the register takes what the read M-cycle returns;
the address is the old one when the destination is half of it; `(HL+)` and `(HL-)` move HL by one modulo 2^16 after. -/
def Obligations.LoadsFromMemory : Prop :=
  ∀ (s : State) (n : Byte) (nn : Word),
    let hl := wordOf s.cpu.h s.cpu.l
    let loaded (dst : Reg) (a : Word) : Result :=
      .next { s.memReadState a with cpu := s.cpu.withReg dst (s.memReadValue a) }
    let moved (v : Word) : Result :=
      .next { s.memReadState hl with cpu := (s.cpu.withReg .a (s.memReadValue hl)).withPair .hl v }
    (∀ dst : Reg, Published (.ldRegMem dst) [opcode 0b01 dst.code memCode] 2 ∧ exec (.ldRegMem dst) s = loaded dst hl) ∧
    (Published .ldAMemBC [0b00001010] 2 ∧ exec .ldAMemBC s = loaded .a (wordOf s.cpu.b s.cpu.c)) ∧
    (Published .ldAMemDE [0b00011010] 2 ∧ exec .ldAMemDE s = loaded .a (wordOf s.cpu.d s.cpu.e)) ∧
    (Published (.ldAMemNn nn) [0b11111010, loByte nn, hiByte nn] 4 ∧ exec (.ldAMemNn nn) s = loaded .a nn) ∧
    (Published (.ldhAMemN n) [0b11110000, n] 3 ∧ exec (.ldhAMemN n) s = loaded .a (wordOf 0xFF n)) ∧
    (Published .ldhAMemC [0b11110010] 2 ∧ exec .ldhAMemC s = loaded .a (wordOf 0xFF s.cpu.c)) ∧
    (Published .ldAMemHLInc [0b00101010] 2 ∧ exec .ldAMemHLInc s = moved (BitVec.ofNat 16 (hl.toNat + 1))) ∧
    (Published .ldAMemHLDec [0b00111010] 2 ∧ exec .ldAMemHLDec s = moved (BitVec.ofInt 16 ((hl.toNat : Int) - 1)))

/-- Stores to memory (R174, R175, R178, R179, R181, R183, R185, R186, R189): one write M-cycle, at the old HL in the forms
that then move HL by one modulo 2^16; no other CPU register changes. -/
def Obligations.StoresToMemory : Prop :=
  ∀ (s : State) (n : Byte) (nn : Word),
    let hl := wordOf s.cpu.h s.cpu.l
    let stored (a : Word) (v : Byte) : Result := .next { s.memWrite a v with cpu := s.cpu }
    let moved (v : Word) : Result := .next { s.memWrite hl s.cpu.a with cpu := s.cpu.withPair .hl v }
    (∀ r : Reg, Published (.ldMemReg r) [opcode 0b01 memCode r.code] 2 ∧ exec (.ldMemReg r) s = stored hl (s.cpu.reg r)) ∧
    (Published (.ldMemHLn n) [0b00110110, n] 3 ∧ exec (.ldMemHLn n) s = stored hl n) ∧
    (Published .ldMemBCA [0b00000010] 2 ∧ exec .ldMemBCA s = stored (wordOf s.cpu.b s.cpu.c) s.cpu.a) ∧
    (Published .ldMemDEA [0b00010010] 2 ∧ exec .ldMemDEA s = stored (wordOf s.cpu.d s.cpu.e) s.cpu.a) ∧
    (Published (.ldMemNnA nn) [0b11101010, loByte nn, hiByte nn] 4 ∧ exec (.ldMemNnA nn) s = stored nn s.cpu.a) ∧
    (Published (.ldhMemNA n) [0b11100000, n] 3 ∧ exec (.ldhMemNA n) s = stored (wordOf 0xFF n) s.cpu.a) ∧
    (Published .ldhMemCA [0b11100010] 2 ∧ exec .ldhMemCA s = stored (wordOf 0xFF s.cpu.c) s.cpu.a) ∧
    (Published .ldMemHLIncA [0b00100010] 2 ∧ exec .ldMemHLIncA s = moved (BitVec.ofNat 16 (hl.toNat + 1))) ∧
    (Published .ldMemHLDecA [0b00110010] 2 ∧ exec .ldMemHLDecA s = moved (BitVec.ofInt 16 ((hl.toNat : Int) - 1)))

/-- `Push16` and `Pop16` (R13), and the 16-bit loads and stack instructions written with them (R201 to R204). `PUSH AF`
pushes F with bits 3..0 clear, `POP AF` drops them. -/
def Obligations.StackInstructions : Prop :=
  ∀ (s : State) (nn : Word),
    (∀ v : Word, (s.push16 v).cpu = { s.cpu with sp := s.cpu.sp - 2 } ∧
      (s.push16 v).trace = .write (s.cpu.sp - 2) (loByte v) :: .write (s.cpu.sp - 1) (hiByte v) :: s.trace) ∧
    (s.pop16.2.cpu = { s.cpu with sp := s.cpu.sp + 2 } ∧
      ∃ lo hi, s.pop16.1 = wordOf hi lo ∧ lo = s.memReadValue s.cpu.sp ∧
        s.pop16.2.trace = .read (s.cpu.sp + 1) hi :: .read s.cpu.sp lo :: s.trace) ∧
    (Published (.ldMemNnSP nn) [0b00001000, loByte nn, hiByte nn] 5 ∧
      exec (.ldMemNnSP nn) s =
        .next { (s.memWrite nn (loByte s.cpu.sp)).memWrite (nn + 1) (hiByte s.cpu.sp) with cpu := s.cpu }) ∧
    (Published .ldSPHL [0b11111001] 2 ∧
      exec .ldSPHL s = .next { s.idle with cpu := { s.cpu with sp := wordOf s.cpu.h s.cpu.l } }) ∧
    (∀ p : StkPair, Published (.push p) [opcodeP 0b11 p.code 0 0b101] 4 ∧
      exec (.push p) s = .next { s.idle.push16 (s.cpu.stkPair p) with cpu := { s.cpu with sp := s.cpu.sp - 2 } }) ∧
    (∀ p : StkPair, Published (.pop p) [opcodeP 0b11 p.code 0 0b001] 3 ∧
      exec (.pop p) s =
        .next { s.pop16.2 with cpu := ({ s.cpu with sp := s.cpu.sp + 2 } : Cpu).withStkPair p s.pop16.1 }) ∧
    (s.cpu.stkPair .af = wordOf s.cpu.a (byteOfBits s.cpu.f.z s.cpu.f.n s.cpu.f.h s.cpu.f.c false false false false) ∧
      ∀ v : Word, (s.cpu.withStkPair .af v).a = hiByte v ∧
        (s.cpu.withStkPair .af v).f =
          { z := (loByte v).getLsbD 7, n := (loByte v).getLsbD 6, h := (loByte v).getLsbD 5, c := (loByte v).getLsbD 4 })

/-! ## 8-bit arithmetic and logic -/

/-- `ADD` and `ADC` in their three forms (R211 to R216). -/
def Obligations.AddAndAdc : Prop :=
  ∀ (x : AluSource) (s : State),
    (Published (x.instr .add) (x.bytes .add) x.mcycles ∧ Published (x.instr .adc) (x.bytes .adc) x.mcycles) ∧
    (∃ r f, IsSum s.cpu.a (x.value s) 0 r f ∧
      exec (x.instr .add) s = .next { x.after s with cpu := s.cpu.withAF r f }) ∧
    (∃ r f, IsSum s.cpu.a (x.value s) s.cpu.f.c.toNat r f ∧
      exec (x.instr .adc) s = .next { x.after s with cpu := s.cpu.withAF r f })

/-- `SUB`, `SBC` and `CP` in their three forms (R217 to R222, R232 to R234): `CP` leaves `A`. -/
def Obligations.SubSbcAndCp : Prop :=
  ∀ (x : AluSource) (s : State),
    (Published (x.instr .sub) (x.bytes .sub) x.mcycles ∧ Published (x.instr .sbc) (x.bytes .sbc) x.mcycles ∧
      Published (x.instr .cp) (x.bytes .cp) x.mcycles) ∧
    (∃ r f, IsDifference s.cpu.a (x.value s) 0 r f ∧
      exec (x.instr .sub) s = .next { x.after s with cpu := s.cpu.withAF r f }) ∧
    (∃ r f, IsDifference s.cpu.a (x.value s) s.cpu.f.c.toNat r f ∧
      exec (x.instr .sbc) s = .next { x.after s with cpu := s.cpu.withAF r f }) ∧
    (∃ r f, IsDifference s.cpu.a (x.value s) 0 r f ∧ (f.z = true ↔ s.cpu.a = x.value s) ∧
      (f.c = true ↔ s.cpu.a.toNat < (x.value s).toNat) ∧
      exec (x.instr .cp) s = .next { x.after s with cpu := s.cpu.withAF s.cpu.a f })

/-- `AND`, `XOR` and `OR` in their three forms (R223 to R231), bit by bit, with H set by `AND` alone; `CPL`, `SCF` and
`CCF` (R240 to R242). -/
def Obligations.LogicOperations : Prop :=
  ∀ (x : AluSource) (s : State),
    let a := s.cpu.a
    let b := x.value s
    let done (r : Byte) (h : Bool) : Result :=
      .next { x.after s with cpu := s.cpu.withAF r { z := decide (r = 0), n := false, h := h, c := false } }
    (Published (x.instr .and) (x.bytes .and) x.mcycles ∧ Published (x.instr .xor) (x.bytes .xor) x.mcycles ∧
      Published (x.instr .or) (x.bytes .or) x.mcycles) ∧
    (∃ r : Byte, (∀ i < 8, r.getLsbD i = (a.getLsbD i && b.getLsbD i)) ∧ exec (x.instr .and) s = done r true) ∧
    (∃ r : Byte, (∀ i < 8, r.getLsbD i = (a.getLsbD i != b.getLsbD i)) ∧ exec (x.instr .xor) s = done r false) ∧
    (∃ r : Byte, (∀ i < 8, r.getLsbD i = (a.getLsbD i || b.getLsbD i)) ∧ exec (x.instr .or) s = done r false) ∧
    (Published .cpl [0b00101111] 1 ∧ ∃ r : Byte, (∀ i < 8, r.getLsbD i = !a.getLsbD i) ∧
      exec .cpl s = .next { s with cpu := s.cpu.withAF r { s.cpu.f with n := true, h := true } }) ∧
    (Published .scf [0b00110111] 1 ∧
      exec .scf s = .next { s with cpu := { s.cpu with f := { z := s.cpu.f.z, n := false, h := false, c := true } } }) ∧
    (Published .ccf [0b00111111] 1 ∧
      exec .ccf s = .next { s with cpu := { s.cpu with f := { z := s.cpu.f.z, n := false, h := false, c := !s.cpu.f.c } } })

/-- `INC` and `DEC` of a byte, in a register and at HL (R235 to R238): C stays; the memory form is a read M-cycle and a
write M-cycle. -/
def Obligations.IncrementAndDecrement : Prop :=
  ∀ s : State,
    let up (v : Byte) : Byte := BitVec.ofNat 8 (v.toNat + 1)
    let down (v : Byte) : Byte := BitVec.ofInt 8 ((v.toNat : Int) - 1)
    let upFlags (v : Byte) : Flags :=
      { z := decide (v.toNat = 255), n := false, h := decide (v.toNat % 16 = 15), c := s.cpu.f.c }
    let downFlags (v : Byte) : Flags :=
      { z := decide (v.toNat = 1), n := true, h := decide (v.toNat % 16 = 0), c := s.cpu.f.c }
    let hl := wordOf s.cpu.h s.cpu.l
    let v := s.memReadValue hl
    (∀ r : Reg, Published (.incReg r) [opcode 0b00 r.code 0b100] 1 ∧
      exec (.incReg r) s =
        .next { s with cpu := { s.cpu.withReg r (up (s.cpu.reg r)) with f := upFlags (s.cpu.reg r) } }) ∧
    (∀ r : Reg, Published (.decReg r) [opcode 0b00 r.code 0b101] 1 ∧
      exec (.decReg r) s =
        .next { s with cpu := { s.cpu.withReg r (down (s.cpu.reg r)) with f := downFlags (s.cpu.reg r) } }) ∧
    (Published .incMemHL [0b00110100] 3 ∧
      exec .incMemHL s = .next { (s.memReadState hl).memWrite hl (up v) with cpu := { s.cpu with f := upFlags v } }) ∧
    (Published .decMemHL [0b00110101] 3 ∧
      exec .decMemHL s = .next { (s.memReadState hl).memWrite hl (down v) with cpu := { s.cpu with f := downFlags v } })

/-- `DAA` (R239), in both branches, for every accumulator and flags; and what it is for ("adjusts A per BCD rules"): after
an addition or a subtraction of two-digit decimal numbers it leaves the decimal result, the carry or borrow in C. -/
def Obligations.DaaAdjusts : Prop :=
  (∀ s : State, ∃ (r : Byte) (f : Flags),
    Published .daa [0b00100111] 1 ∧
    exec .daa s = .next { s with cpu := s.cpu.withAF r f } ∧
    f.z = decide (r = 0) ∧ f.n = s.cpu.f.n ∧ f.h = false ∧
    (s.cpu.f.n = false →
      f.c = (s.cpu.f.c || decide (0x99 < s.cpu.a.toNat)) ∧
      r.toNat = (s.cpu.a.toNat + (if s.cpu.f.c = true ∨ 0x99 < s.cpu.a.toNat then 0x60 else 0) +
        (if s.cpu.f.h = true ∨ 0x09 < s.cpu.a.toNat % 16 then 0x06 else 0)) % 256) ∧
    (s.cpu.f.n = true →
      f.c = s.cpu.f.c ∧
      (r.toNat + (if s.cpu.f.c = true then 0x60 else 0) + (if s.cpu.f.h = true then 0x06 else 0)) % 256 = s.cpu.a.toNat)) ∧
  (∀ (s : State) (x y : Nat), x < 100 → y < 100 →
    let bcd (k : Nat) : Byte := BitVec.ofNat 8 (16 * (k / 10 % 10) + k % 10)
    s.cpu.a = bcd x →
    (∃ t u, exec (.addAn (bcd y)) s = .next t ∧ exec .daa t = .next u ∧
      u.cpu.a = bcd (x + y) ∧ u.cpu.f.c = decide (100 ≤ x + y)) ∧
    (∃ t u, exec (.subn (bcd y)) s = .next t ∧ exec .daa t = .next u ∧
      u.cpu.a = bcd (x + 100 - y) ∧ u.cpu.f.c = decide (x < y)))

/-! ## 16-bit arithmetic -/

/-- `ADD HL,rr`, `INC rr` and `DEC rr` (R250 to R252): one idle M-cycle; the increments change no flag. `ADD SP,e` and
`LD HL,SP+e` (R205, R253): the displacement is signed, the flags are those of the unsigned addition of the low byte, Z and
N are cleared. -/
def Obligations.WordArithmetic : Prop :=
  ∀ (p : Pair) (e : Byte) (s : State),
    let offset : Word := BitVec.ofInt 16 ((s.cpu.sp.toNat : Int) + e.toInt)
    let f : Flags :=
      { z := false, n := false, h := decide (15 < s.cpu.sp.toNat % 16 + e.toNat % 16),
        c := decide (255 < s.cpu.sp.toNat % 256 + e.toNat) }
    (Published (.addHlPair p) [opcodeP 0b00 p.code 1 0b001] 2 ∧
      ∃ (r : Word) (h c : Bool),
        r.toNat + 65536 * c.toNat = (s.cpu.pair .hl).toNat + (s.cpu.pair p).toNat ∧
        r.toNat % 4096 + 4096 * h.toNat = (s.cpu.pair .hl).toNat % 4096 + (s.cpu.pair p).toNat % 4096 ∧
        exec (.addHlPair p) s =
          .next { s.idle with cpu := { s.cpu.withPair .hl r with f := { z := s.cpu.f.z, n := false, h := h, c := c } } }) ∧
    (Published (.incPair p) [opcodeP 0b00 p.code 0 0b011] 2 ∧
      exec (.incPair p) s =
        .next { s.idle with cpu := s.cpu.withPair p (BitVec.ofNat 16 ((s.cpu.pair p).toNat + 1)) }) ∧
    (Published (.decPair p) [opcodeP 0b00 p.code 1 0b011] 2 ∧
      exec (.decPair p) s =
        .next { s.idle with cpu := s.cpu.withPair p (BitVec.ofInt 16 (((s.cpu.pair p).toNat : Int) - 1)) }) ∧
    (Published (.addSPe e) [0b11101000, e] 4 ∧
      exec (.addSPe e) s = .next { s.idle.idle with cpu := { s.cpu with sp := offset, f := f } }) ∧
    (Published (.ldHLSPe e) [0b11111000, e] 3 ∧
      exec (.ldHLSPe e) s = .next { s.idle with cpu := { s.cpu.withPair .hl offset with f := f } })

/-! ## Rotates, shifts and bits -/

/-- The CB rotates, shifts and `SWAP`, in a register and at HL (R260, R265 to R280), and the accumulator rotates (R261 to
R264), which clear Z whatever the result. -/
def Obligations.RotatesAndShifts : Prop :=
  ∀ (op : RotOp) (s : State),
    (∀ r : Reg, Published (.rotReg op r) [0xCB, opcode 0b00 op.code r.code] 2 ∧
      ∃ v f, IsRotation op (s.cpu.reg r) s.cpu.f.c v f ∧
        exec (.rotReg op r) s = .next { s with cpu := { s.cpu.withReg r v with f := f } }) ∧
    (Published (.rotMem op) [0xCB, opcode 0b00 op.code memCode] 4 ∧
      ∃ v f, IsRotation op (s.memReadValue (wordOf s.cpu.h s.cpu.l)) s.cpu.f.c v f ∧
        exec (.rotMem op) s =
          .next { (s.memReadState (wordOf s.cpu.h s.cpu.l)).memWrite (wordOf s.cpu.h s.cpu.l) v with
            cpu := { s.cpu with f := f } }) ∧
    (∀ p ∈ ([(.rlc, .rlca, 0b00000111), (.rrc, .rrca, 0b00001111), (.rl, .rla, 0b00010111), (.rr, .rra, 0b00011111)] :
        List (RotOp × Instr × Byte)),
      Published p.2.1 [p.2.2] 1 ∧
      ∃ v f, IsRotation p.1 s.cpu.a s.cpu.f.c v f ∧
        exec p.2.1 s = .next { s with cpu := s.cpu.withAF v { f with z := false } })

/-- `BIT`, `RES` and `SET`, in a register and at HL (R281 to R286): `BIT` sets Z to the complement of the bit, keeps C and
writes nothing; `RES` and `SET` change that one bit and no flag. -/
def Obligations.BitInstructions : Prop :=
  ∀ (b : Ix) (s : State),
    let hl := wordOf s.cpu.h s.cpu.l
    let flags (v : Byte) : Flags := { z := !v.getLsbD b.toNat, n := false, h := true, c := s.cpu.f.c }
    let isRes (v r : Byte) : Prop := ∀ i < 8, r.getLsbD i = if i = b.toNat then false else v.getLsbD i
    let isSet (v r : Byte) : Prop := ∀ i < 8, r.getLsbD i = if i = b.toNat then true else v.getLsbD i
    (∀ r : Reg, Published (.bitReg b r) [0xCB, opcode 0b01 b.code r.code] 2 ∧
      exec (.bitReg b r) s = .next { s with cpu := { s.cpu with f := flags (s.cpu.reg r) } }) ∧
    (Published (.bitMem b) [0xCB, opcode 0b01 b.code memCode] 3 ∧
      exec (.bitMem b) s = .next { s.memReadState hl with cpu := { s.cpu with f := flags (s.memReadValue hl) } }) ∧
    (∀ r : Reg, Published (.resReg b r) [0xCB, opcode 0b10 b.code r.code] 2 ∧
      ∃ v, isRes (s.cpu.reg r) v ∧ exec (.resReg b r) s = .next { s with cpu := s.cpu.withReg r v }) ∧
    (Published (.resMem b) [0xCB, opcode 0b10 b.code memCode] 4 ∧
      ∃ v, isRes (s.memReadValue hl) v ∧
        exec (.resMem b) s = .next { (s.memReadState hl).memWrite hl v with cpu := s.cpu }) ∧
    (∀ r : Reg, Published (.setReg b r) [0xCB, opcode 0b11 b.code r.code] 2 ∧
      ∃ v, isSet (s.cpu.reg r) v ∧ exec (.setReg b r) s = .next { s with cpu := s.cpu.withReg r v }) ∧
    (Published (.setMem b) [0xCB, opcode 0b11 b.code memCode] 4 ∧
      ∃ v, isSet (s.memReadValue hl) v ∧
        exec (.setMem b) s = .next { (s.memReadState hl).memWrite hl v with cpu := s.cpu })

/-! ## Control flow -/

/-- The jumps (R301 to R305): an idle M-cycle exactly when taken; a relative target is PC plus the signed displacement,
modulo 2^16; each condition reads the flag that R300 says. -/
def Obligations.Jumps : Prop :=
  ∀ (s : State) (nn : Word) (e : Byte),
    let taken (pc : Word) : Result := .next { s.idle with cpu := { s.cpu with pc := pc } }
    let relative : Word := BitVec.ofInt 16 ((s.cpu.pc.toNat : Int) + e.toInt)
    (Published (.jpnn nn) [0b11000011, loByte nn, hiByte nn] 4 ∧ exec (.jpnn nn) s = taken nn) ∧
    (Published .jpHL [0b11101001] 1 ∧
      exec .jpHL s = .next { s with cpu := { s.cpu with pc := wordOf s.cpu.h s.cpu.l } }) ∧
    (Published (.jre e) [0b00011000, e] 3 ∧ exec (.jre e) s = taken relative) ∧
    (∀ cc : Cond,
      PublishedIf cc (.jpIf cc nn) [opcode 0b11 cc.y 0b010, loByte nn, hiByte nn] 3 4 ∧
      exec (.jpIf cc nn) s = if condHolds s.cpu.f cc then taken nn else .next s) ∧
    (∀ cc : Cond,
      PublishedIf cc (.jrIf cc e) [opcode 0b00 ((1 : BitVec 1) ++ cc.code) 0b000, e] 2 3 ∧
      exec (.jrIf cc e) s = if condHolds s.cpu.f cc then taken relative else .next s) ∧
    (condHolds s.cpu.f .nz = true ↔ s.cpu.f.z = false) ∧ (condHolds s.cpu.f .z = true ↔ s.cpu.f.z = true) ∧
    (condHolds s.cpu.f .nc = true ↔ s.cpu.f.c = false) ∧ (condHolds s.cpu.f .c = true ↔ s.cpu.f.c = true)

/-- `CALL`, `RST` and their conditional form (R306, R307, R310): an idle M-cycle, PC pushed, PC set. -/
def Obligations.CallsAndRestarts : Prop :=
  ∀ (s : State) (nn : Word) (cc : Cond) (y : Ix),
    let called (pc : Word) : Result :=
      .next { s.idle.push16 s.cpu.pc with cpu := { s.cpu with sp := s.cpu.sp - 2, pc := pc } }
    (Published (.callnn nn) [0b11001101, loByte nn, hiByte nn] 6 ∧ exec (.callnn nn) s = called nn) ∧
    (PublishedIf cc (.callIf cc nn) [opcode 0b11 cc.y 0b100, loByte nn, hiByte nn] 3 6 ∧
      exec (.callIf cc nn) s = if condHolds s.cpu.f cc then called nn else .next s) ∧
    (Published (.rst y) [opcode 0b11 y.code 0b111] 4 ∧ exec (.rst y) s = called (BitVec.ofNat 16 (8 * y.toNat)))

/-- `RET`, `RET cc` and `RETI` (R308, R309, R311): PC popped, then an idle M-cycle; `RET cc` spends one before as well,
taken or not; `RETI` sets `IME` to `Enabled` at once. -/
def Obligations.Returns : Prop :=
  ∀ (s : State) (cc : Cond),
    let returned (u : State) (i : Ime) : Result :=
      .next { (u.pop16.2.setPc u.pop16.1).idle with
        cpu := { s.cpu with sp := s.cpu.sp + 2, pc := u.pop16.1, ime := i } }
    (Published .ret [0b11001001] 4 ∧ exec .ret s = returned s s.cpu.ime) ∧
    (PublishedIf cc (.retIf cc) [opcode 0b11 cc.y 0b000] 2 5 ∧
      exec (.retIf cc) s = if condHolds s.cpu.f cc then returned s.idle s.cpu.ime else .next s.idle) ∧
    (Published .reti [0b11011001] 4 ∧ exec .reti s = returned s .enabled)

/-! ## CPU control -/

/-- `NOP`, `DI` and `EI` (R320, R323, R324). `DI` cancels a `Pending` too, and the check at the end of its step takes no
interrupt. `EI` takes effect after the next instruction: the step that runs it from `Disabled` ends `Pending`; a step that
began `Pending` and whose instruction leaves it so ends with the check on `Enabled`. -/
def Obligations.NopDiAndEi : Prop :=
  (∀ s : State,
    (Published .nop [0b00000000] 1 ∧ exec .nop s = .next s) ∧
    (Published .di [0b11110011] 1 ∧ exec .di s = .next { s with cpu := { s.cpu with ime := .disabled } }) ∧
    (∃ u, ({ s with cpu := { s.cpu with ime := .disabled } } : State).endStep = .next u ∧
      u.cpu.pc = s.cpu.pc ∧ u.cpu.sp = s.cpu.sp ∧ u.irq = s.irq ∧ u.trace = s.trace) ∧
    (Published .ei [0b11111011] 1 ∧
      exec .ei s = .next { s with cpu := { s.cpu with ime := if s.cpu.ime = .disabled then .pending else s.cpu.ime } })) ∧
  (∀ s t : State, s.cpu.halted = false → s.cpu.ime = .disabled → s.beginStep.fetchOpcode.1 = 0xFB →
    step s = .next t → t.cpu.ime = .pending) ∧
  (∀ s u : State, s.cpu.halted = false → s.cpu.ime = .pending →
    exec s.beginStep.fetchInstr.1 s.beginStep.fetchInstr.2 = .next u → u.cpu.ime = .pending →
    step s = (u.setIme .enabled).endStep)

/-- `HALT` (46_cpu_control.md, R321, with its decision D5): it halts, but with `HALT_BUG`, `IME` not enabled and an enabled
request it arms the halt bug instead. -/
def Obligations.HaltInstruction : Prop :=
  ∀ s : State,
    let bug := s.params.haltBug = true ∧ s.cpu.ime ≠ .enabled ∧ s.irq.ie.setWidth 5 &&& s.irq.flags ≠ 0
    Published .halt [0b01110110] 1 ∧
    (¬ bug → exec .halt s = .next { s with cpu := { s.cpu with halted := true } }) ∧
    (bug → exec .halt s = .next { s with cpu := { s.cpu with haltBugPending := true } })

/-- `STOP` (R322): with the operand swallowed it first fetches the byte at PC; then nothing on `Dmg` or when not armed; on
`Cgb` when armed the speed toggles, the arming clears, and 2050 idle M-cycles pass at the new speed. -/
def Obligations.StopInstruction : Prop :=
  ∀ s : State,
    let u : State := if s.params.stopSwallowsOperand then (s.memReadState s.cpu.pc).setPc (s.cpu.pc + 1) else s
    Published .stop [0b00010000] 1 ∧
    (s.params.model = .dmg ∨ s.key1Armed = false → exec .stop s = .next u) ∧
    (s.params.model = .cgb → s.key1Armed = true →
      exec .stop s = .next (State.idles 2050 { u with doubleSpeed := !s.doubleSpeed, key1Armed := false }) ∧
      ∃ t, exec .stop s = .next t ∧ t.cpu = u.cpu ∧ t.doubleSpeed = !s.doubleSpeed ∧ t.key1Armed = false ∧
        t.trace = List.replicate 2050 .idle ++ u.trace)

/-! ## Interrupts and the step's end -/

/-- Taking an interrupt (R351): two idle M-cycles, PC pushed, the lowest enabled request chosen, its bit cleared, PC at
`0x0040 + 8·i`, `IME` disabled. That it is chosen on the values `IE` and `IF` have after the pushes (R349), and that none
left then is a fault (R353), is the spec's own decision D4 (log entries 15 and 18). -/
def Obligations.InterruptDispatch : Prop :=
  ∀ s : State,
    let t := s.idle.idle.push16 s.cpu.pc
    (t.irq.ie.setWidth 5 &&& t.irq.flags = 0 → s.takeInterrupt = .fault .irqVanished) ∧
    (∀ i < 5, t.irq.ie.getLsbD i = true → t.irq.flags.getLsbD i = true →
      (∀ j < i, ¬ (t.irq.ie.getLsbD j = true ∧ t.irq.flags.getLsbD j = true)) →
      ∃ flags : BitVec 5, (∀ j < 5, flags.getLsbD j = if j = i then false else t.irq.flags.getLsbD j) ∧
        s.takeInterrupt = .next { t with
          irq := { t.irq with flags := flags }
          cpu := { s.cpu with sp := s.cpu.sp - 2, pc := BitVec.ofNat 16 (0x40 + 8 * i), ime := .disabled } })

/-- The end of a step (R350): with no enabled request nothing happens; with one the halt ends, and the interrupt is taken
exactly when `IME` is `Enabled`. A step with the CPU halted is one idle M-cycle and that check (R321, R365); with no source
enabled the CPU stays halted and its registers stay. -/
def Obligations.StepEnd : Prop :=
  (∀ s : State,
    (s.irq.ie.setWidth 5 &&& s.irq.flags = 0 → s.endStep = .next s) ∧
    (s.irq.ie.setWidth 5 &&& s.irq.flags ≠ 0 → s.cpu.ime = .enabled →
      s.endStep = ({ s with cpu := { s.cpu with halted := false } } : State).takeInterrupt) ∧
    (s.irq.ie.setWidth 5 &&& s.irq.flags ≠ 0 → s.cpu.ime ≠ .enabled →
      s.endStep = .next { s with cpu := { s.cpu with halted := false } })) ∧
  (∀ s : State, s.cpu.halted = true →
    step s = s.beginStep.idle.endStep ∧
    (s.irq.ie.setWidth 5 = (0 : BitVec 5) →
      ∃ t, step s = .next t ∧ t.cpu = s.cpu ∧ t.trace = [.idle] ∧ t.irq.ie = s.irq.ie))

/-- Only `EI`, `DI` and `RETI` change `IME` while an instruction runs, and only `HALT` halts (R347, R365). -/
def Obligations.OnlyTheseChangeIme : Prop :=
  ∀ (i : Instr) (s t : State), exec i s = .next t →
    (i ≠ .ei → i ≠ .di → i ≠ .reti → t.cpu.ime = s.cpu.ime) ∧
    (i ≠ .halt → t.cpu.halted = s.cpu.halted ∧ t.cpu.haltBugPending = s.cpu.haltBugPending)

/-- Settling (R345): at the end of every M-cycle a request that a unit raised during it is in `IF`, no bit of `IF` was
lost, and none is left waiting. The timer's, serial port's and joypad's requests are named. A dot requests VBlank, and
counts a frame done, exactly when it makes LY 144 (R487, R495), and LcdStat exactly when the STAT line rises on it
(R491); both are in `IF` at the end of the M-cycle whatever dot of it that was. -/
def Obligations.RequestsSettle : Prop :=
  (∀ s : State,
    let units (k : Nat) : State := State.ppuDots k s.oamDmaStep.timerStep
    s.deviceTick.irq.req = 0 ∧ s.deviceTick.irq.ie = s.irq.ie ∧
    (∀ i < 5, s.irq.flags.getLsbD i = true ∨ s.irq.req.getLsbD i = true → s.deviceTick.irq.flags.getLsbD i = true) ∧
    (s.timer.reloadPending = true → s.deviceTick.irq.flags.getLsbD 2 = true) ∧
    (s.serial.start = true → s.serial.internal = true → s.deviceTick.irq.flags.getLsbD 3 = true) ∧
    (s.joypad.prev &&& ~~~ s.joypad.nibble s.buttons ≠ 0 → s.deviceTick.irq.flags.getLsbD 4 = true) ∧
    (∀ k < (if s.doubleSpeed then 2 else 4), (units k).ppu.lcdc.getLsbD 7 = true → (units k).ppu.ly = 143 →
      (units k).ppu.dot = 455 →
      s.deviceTick.irq.flags.getLsbD 0 = true ∧ s.deviceTick.framesDone = s.framesDone + 1) ∧
    (∀ k < (if s.doubleSpeed then 2 else 4), (units k).ppu.statLine = false → (units (k + 1)).ppu.statLine = true →
      s.deviceTick.irq.flags.getLsbD 1 = true)) ∧
  (∀ u : State,
    let t := u.ppuDot
    let frame := u.ppu.lcdc.getLsbD 7 = true ∧ u.ppu.ly = 143 ∧ u.ppu.dot = 455
    (frame → t.ppu.ly = 144 ∧ t.ppu.mode = .vblank ∧ t.framesDone = u.framesDone + 1) ∧
    (¬ frame → t.framesDone = u.framesDone) ∧
    (t.irq.req.getLsbD 0 = true ↔ u.irq.req.getLsbD 0 = true ∨ frame) ∧
    (t.irq.req.getLsbD 1 = true ↔ u.irq.req.getLsbD 1 = true ∨ u.ppu.statLine = false ∧ t.ppu.statLine = true) ∧
    (∀ i, 2 ≤ i → t.irq.req.getLsbD i = u.irq.req.getLsbD i) ∧ t.irq.flags = u.irq.flags ∧ t.irq.ie = u.irq.ie)

/-! ## Every instruction -/

/-- Every instruction takes its published M-cycles (R595): its bus trace is that long, the fetches included; and on `Dmg`,
where nothing stalls the CPU, so much time passes. The `STOP` of this rule fetches no operand; one that switches the speed
takes 2051. Taking an interrupt takes four. -/
def Obligations.PublishedTimes : Prop :=
  (∀ (i : Instr) (s t : State), exec i s = .next t →
    (i = .stop → s.params.stopSwallowsOperand = false ∧ (s.params.model = .dmg ∨ s.key1Armed = false)) →
    t.trace.length + (encode i).length = s.trace.length + i.mcycles s.cpu.f ∧
    (s.params.model = .dmg → t.mcycles + (encode i).length = s.mcycles + i.mcycles s.cpu.f)) ∧
  (∀ s t : State, exec .stop s = .next t → s.params.stopSwallowsOperand = false → s.params.model = .cgb →
    s.key1Armed = true → t.trace.length + 1 = s.trace.length + 2051) ∧
  (∀ s t : State, s.takeInterrupt = .next t → t.trace.length = s.trace.length + 4)

/-- Every instruction leaves, clears, sets or computes each flag as the flag summary of R210 says. -/
def Obligations.FlagsAsPublished : Prop :=
  ∀ (i : Instr) (s t : State), exec i s = .next t →
    i.flagColumn.z.allows s.cpu.f.z t.cpu.f.z ∧ i.flagColumn.n.allows s.cpu.f.n t.cpu.f.n ∧
    i.flagColumn.h.allows s.cpu.f.h t.cpu.f.h ∧ i.flagColumn.c.allows s.cpu.f.c t.cpu.f.c

/-- The frame of the forms that store nothing: loads, register and immediate operations, jumps, returns, CPU control.
With no DMA running, every byte of memory stays, and every register outside the CPU but those that the device tick itself
advances (R110: DIV, TIMA, IF, SB, SC bit 7, LY, the mode bits of STAT, the engines' counters); `STOP` may clear KEY1's
armed bit and change the speed, nothing else of those. -/
def Obligations.FrameWithoutStore : Prop :=
  ∀ (s t : State) (i : Instr), s.DmaQuiet → exec i s = .next t →
    ((∃ dst r, i = .ldRegReg dst r) ∨ (∃ r n, i = .ldRegImm r n) ∨ (∃ r, i = .ldRegMem r) ∨ (∃ p nn, i = .ldPairImm p nn) ∨
      (∃ p, i = .pop p) ∨ (∃ op x, i = AluSource.instr x op) ∨ (∃ r, i = .incReg r) ∨ (∃ r, i = .decReg r) ∨
      (∃ p, i = .addHlPair p) ∨ (∃ p, i = .incPair p) ∨ (∃ p, i = .decPair p) ∨ (∃ op r, i = .rotReg op r) ∨
      (∃ b r, i = .bitReg b r) ∨ (∃ b, i = .bitMem b) ∨ (∃ b r, i = .resReg b r) ∨ (∃ b r, i = .setReg b r) ∨
      (∃ cc e, i = .jrIf cc e) ∨ (∃ cc nn, i = .jpIf cc nn) ∨ (∃ cc, i = .retIf cc) ∨
      (∃ e, i = .jre e ∨ i = .addSPe e ∨ i = .ldHLSPe e ∨ i = .ldhAMemN e) ∨ (∃ nn, i = .jpnn nn ∨ i = .ldAMemNn nn) ∨
      i ∈ [.ldAMemBC, .ldAMemDE, .ldAMemHLInc, .ldAMemHLDec, .ldhAMemC, .ldSPHL, .rlca, .rrca, .rla, .rra, .daa, .cpl,
        .scf, .ccf, .jpHL, .ret, .reti, .nop, .halt, .di, .ei, .stop]) →
    KeepsMemory [] s t ∧ (i ≠ .stop → KeepsRegisters [] s t) ∧
    (i = .stop → KeepsRegisters [.io 0x4D] s { t with doubleSpeed := s.doubleSpeed })

/-- The frame of the forms that store one byte, and of the read-modify-write forms at HL: of the memories, and of the
registers that the device tick itself does not advance (R110: DIV, TIMA, IF, SB, SC bit 7, LY, the mode bits of STAT, the
engines' counters are left out), only the target of the store may change. The memories are in canonical form, as every run
keeps them (StepKeepsInvariant). -/
def Obligations.FrameOfOneStore : Prop :=
  ∀ (s t : State) (i : Instr) (a : Word), s.MemoriesOk → s.DmaQuiet → exec i s = .next t →
    ((∃ r, i = .ldMemReg r ∧ a = s.cpu.hl) ∨ (∃ n, i = .ldMemHLn n ∧ a = s.cpu.hl) ∨ (i = .ldMemBCA ∧ a = s.cpu.bc) ∨
      (i = .ldMemDEA ∧ a = s.cpu.de) ∨ (i = .ldMemHLIncA ∧ a = s.cpu.hl) ∨ (i = .ldMemHLDecA ∧ a = s.cpu.hl) ∨
      (i = .ldMemNnA a) ∨ (∃ n, i = .ldhMemNA n ∧ a = highPage n) ∨ (i = .ldhMemCA ∧ a = highPage s.cpu.c) ∨
      (i = .incMemHL ∧ a = s.cpu.hl) ∨ (i = .decMemHL ∧ a = s.cpu.hl) ∨ (∃ op, i = .rotMem op ∧ a = s.cpu.hl) ∨
      (∃ b, i = .resMem b ∧ a = s.cpu.hl) ∨ (∃ b, i = .setMem b ∧ a = s.cpu.hl)) →
    KeepsMemory [s.target a] s t ∧ KeepsRegisters [s.target a] s t

/-- The frame of the forms that store two bytes: of the memories, in canonical form as every run keeps them
(StepKeepsInvariant), and of the registers that the device tick itself does not advance (R110: DIV, TIMA, IF, SB, SC bit 7,
LY, the mode bits of STAT, the engines' counters are left out), only the two targets may change, the second taken in the
state after the first store. A first store to HDMA5 on `Cgb` may start a VRAM-DMA, whose bytes land in `vram` before the second.
`v` is the byte the first store writes. -/
def Obligations.FrameOfTwoStores : Prop :=
  ∀ (s t : State) (i : Instr) (u : State) (a b : Word) (v : Byte), s.MemoriesOk → s.DmaQuiet →
    exec i s = .next t →
    ((∃ p, i = .push p ∧ u = s.idle ∧ a = s.cpu.sp - 1 ∧ v = hiByte (s.cpu.stkPair p) ∧ b = s.cpu.sp - 2) ∨
      (∃ nn, i = .callnn nn ∧ u = s.idle ∧ a = s.cpu.sp - 1 ∧ v = hiByte s.cpu.pc ∧ b = s.cpu.sp - 2) ∨
      (∃ cc nn, i = .callIf cc nn ∧ u = s.idle ∧ a = s.cpu.sp - 1 ∧ v = hiByte s.cpu.pc ∧ b = s.cpu.sp - 2) ∨
      (∃ y, i = .rst y ∧ u = s.idle ∧ a = s.cpu.sp - 1 ∧ v = hiByte s.cpu.pc ∧ b = s.cpu.sp - 2) ∨
      (∃ nn, i = .ldMemNnSP nn ∧ u = s ∧ a = nn ∧ v = loByte s.cpu.sp ∧ b = nn + 1)) →
    let but := [u.target a, (u.memWrite a v).target b]
    KeepsRegisters but s t ∧
    (s.params.model = .dmg ∨ u.target a ≠ .io 0x55 → KeepsMemory but s t) ∧
    (∀ c : Target, c.isCell = true → c ∉ but → (∀ k, c ≠ .vram k) → t.readTarget c = s.readTarget c)

/-! ## Memory -/

/-- What a CPU read obtains and what a CPU write does (R95, R96): `0xFF`, or nothing, when the OAM-DMA engine or the PPU
blocks the address; otherwise the raw access. -/
def Obligations.CpuAccessBlocking : Prop :=
  ∀ (s : State) (a : Word) (v : Byte),
    let vram := 0x8000 ≤ a.toNat ∧ a.toNat ≤ 0x9FFF ∧ s.ppu.mode = .drawing
    let oam := 0xFE00 ≤ a.toNat ∧ a.toNat ≤ 0xFE9F ∧ (s.ppu.mode = .oamScan ∨ s.ppu.mode = .drawing)
    let read := (s.oamDma.status = .active ∧ ¬ (0xFF80 ≤ a.toNat ∨ a.toNat = 0xFF0F)) ∨ vram ∨ oam
    let write := (s.oamDma.status = .active ∧ a.toNat < 0xFF00) ∨ vram ∨ oam
    (read → s.cpuRead a = 0xFF) ∧ (¬ read → s.cpuRead a = s.rawRead a) ∧
    (write → s.cpuWrite a v = s) ∧ (¬ write → s.cpuWrite a v = s.rawWrite a v)

/-- The echo (R89): an access to E000 to FDFF is the access 0x2000 below, reads and writes alike. -/
def Obligations.EchoIsWorkRam : Prop :=
  ∀ (s : State) (a : Word) (v : Byte), 0xE000 ≤ a.toNat → a.toNat ≤ 0xFDFF →
    s.rawRead a = s.rawRead (a - 0x2000) ∧ s.rawWrite a v = s.rawWrite (a - 0x2000) v ∧
    s.cpuRead a = s.cpuRead (a - 0x2000) ∧ s.cpuWrite a v = s.cpuWrite (a - 0x2000) v

/-- A store is read back by the very next access (R120): in every RAM of the block, and what other addresses read changes
only where they share the cell. The memories are in canonical form, as every run keeps them (StepKeepsInvariant). Then
which cell an address is, with the banks that VBK and SVBK select (R86 to R91, R94; SVBK 0 is bank 1 by decision D37); and
the registers that no other statement names, as a program reads and writes them (R47, R52 to R61, R65 to R67, R70, R74,
R78, R79; their bits that no one stores read 1, decisions D8 and D36), with the addresses of no register (R77, R92), of the
external unit (R93) and, on `Dmg`, of the colour model. -/
def Obligations.WriteThenRead : Prop :=
  (∀ (s : State) (a b : Word) (v : Byte), s.MemoriesOk →
    (s.target a).isCell = true → (∀ off, s.target a ≠ .boot off) →
    (s.rawWrite a v).rawRead a = v ∧
    (s.target b ≠ s.target a → (s.rawWrite a v).rawRead b = s.rawRead b)) ∧
  (∀ (s : State) (a : Word) (v : Byte),
    let n := a.toNat
    let vkey : Nat := (if s.params.model = .cgb then 0x2000 * s.ppu.vbk.toNat else 0) + (n - 0x8000)
    let wkey : Nat := (if s.params.model = .cgb ∧ s.svbk ≠ 0 then 0x1000 * s.svbk.toNat else 0x1000) + (n - 0xD000)
    (0x8000 ≤ n → n < 0xA000 → s.rawRead a = s.vram.read vkey ∧ s.rawWrite a v = { s with vram := s.vram.write vkey v }) ∧
    (0xA000 ≤ n → n < 0xC000 → s.rawRead a = s.cartRead a ∧ s.rawWrite a v = s) ∧
    (0xC000 ≤ n → n < 0xD000 →
      s.rawRead a = s.wram.read (n - 0xC000) ∧ s.rawWrite a v = { s with wram := s.wram.write (n - 0xC000) v }) ∧
    (0xD000 ≤ n → n < 0xE000 → s.rawRead a = s.wram.read wkey ∧ s.rawWrite a v = { s with wram := s.wram.write wkey v }) ∧
    (0xFE00 ≤ n → n < 0xFEA0 →
      s.rawRead a = s.oam.read (n - 0xFE00) ∧ s.rawWrite a v = { s with oam := s.oam.write (n - 0xFE00) v }) ∧
    (0xFEA0 ≤ n → n < 0xFF00 → (s.params.model = .dmg → s.rawRead a = 0x00) ∧ s.rawWrite a v = s) ∧
    (0xFF80 ≤ n → n < 0xFFFF →
      s.rawRead a = s.hram.read (n - 0xFF80) ∧ s.rawWrite a v = { s with hram := s.hram.write (n - 0xFF80) v })) ∧
  (∀ (s : State) (v : Byte),
    let p := s.ppu
    let reg (a : Word) (read : Byte) (written : State) : Prop := s.rawRead a = read ∧ s.rawWrite a v = written
    let none (a : Word) : Prop := reg a 0xFF s
    reg 0xFF01 s.serial.sb { s with serial := { s.serial with sb := v } } ∧
    reg 0xFF0F ((0b111 : BitVec 3) ++ s.irq.flags) { s with irq := { s.irq with flags := v.extractLsb' 0 5 } } ∧
    reg 0xFFFF s.irq.ie { s with irq := { s.irq with ie := v } } ∧
    s.rawRead 0xFF40 = p.lcdc ∧
    s.rawWrite 0xFF41 v = ({ s with ppu := { p with statEnable := v.extractLsb' 3 4 } } : State).statUpdate ∧
    reg 0xFF42 p.scy { s with ppu := { p with scy := v } } ∧
    reg 0xFF43 p.scx { s with ppu := { p with scx := v } } ∧
    reg 0xFF44 p.ly s ∧
    reg 0xFF45 p.lyc ({ s with ppu := { p with lyc := v } } : State).statUpdate ∧
    reg 0xFF46 s.oamDma.page
      { s with oamDma := { s.oamDma with page := v, status := .requested, writtenThisCycle := true } } ∧
    reg 0xFF47 p.bgp { s with ppu := { p with bgp := v } } ∧
    reg 0xFF48 p.obp0 { s with ppu := { p with obp0 := v } } ∧
    reg 0xFF49 p.obp1 { s with ppu := { p with obp1 := v } } ∧
    reg 0xFF4A p.wy { s with ppu := { p with wy := v } } ∧
    reg 0xFF4B p.wx { s with ppu := { p with wx := v } } ∧
    s.rawRead 0xFF50 = 0xFF ∧
    (s.params.model = .cgb →
      reg 0xFF4D (bitOf s.doubleSpeed ++ (0b111111 : BitVec 6) ++ bitOf s.key1Armed) { s with key1Armed := v.getLsbD 0 } ∧
      reg 0xFF4F ((0b1111111 : BitVec 7) ++ p.vbk) { s with ppu := { p with vbk := v.extractLsb' 0 1 } } ∧
      reg 0xFF51 0xFF { s with vdma := { s.vdma with hdma1 := v } } ∧
      reg 0xFF52 0xFF { s with vdma := { s.vdma with hdma2 := v } } ∧
      reg 0xFF53 0xFF { s with vdma := { s.vdma with hdma3 := v } } ∧
      reg 0xFF54 0xFF { s with vdma := { s.vdma with hdma4 := v } } ∧
      reg 0xFF6C ((0b1111111 : BitVec 7) ++ p.opri) { s with ppu := { p with opri := v.extractLsb' 0 1 } } ∧
      reg 0xFF70 ((0b11111 : BitVec 5) ++ s.svbk) { s with svbk := v.extractLsb' 0 3 } ∧
      ∀ a ∈ ([0xFF56, 0xFF76, 0xFF77] : List Word), s.rawWrite a v = s) ∧
    (s.params.model = .dmg → ∀ a ∈ ([0xFF4D, 0xFF4F, 0xFF51, 0xFF52, 0xFF53, 0xFF54, 0xFF55, 0xFF56, 0xFF68, 0xFF69, 0xFF6A,
      0xFF6B, 0xFF6C, 0xFF70, 0xFF76, 0xFF77] : List Word), none a) ∧
    (∀ a : Word, a = 0xFF03 ∨ 0xFF08 ≤ a.toNat ∧ a.toNat ≤ 0xFF0E ∨ a = 0xFF4C ∨ a = 0xFF4E ∨
      0xFF57 ≤ a.toNat ∧ a.toNat ≤ 0xFF67 ∨ 0xFF6D ≤ a.toNat ∧ a.toNat ≤ 0xFF6F ∨ a = 0xFF71 ∨
      0xFF78 ≤ a.toNat ∧ a.toNat ≤ 0xFF7F → none a) ∧
    (∀ a : Word, 0xFF10 ≤ a.toNat ∧ a.toNat ≤ 0xFF3F ∨ 0xFF72 ≤ a.toNat ∧ a.toNat ≤ 0xFF75 → s.rawWrite a v = s))

/-- A read changes nothing (R103): the state after a read M-cycle is the one after an idle M-cycle, but for its entry in
the bus trace. -/
def Obligations.ReadsHaveNoEffect : Prop :=
  ∀ (s : State) (a : Word),
    s.memReadState a = { s.idle with trace := .read a (s.memReadValue a) :: s.trace }

/-- An M-cycle (R110, R111): the CPU's transaction, then `DeviceTick()`: the units in their fixed order, four dots at single
speed and two at double speed (the correction C2 of the source's own "two dots"), the requests settle, one M-cycle is
counted. That the check for a VRAM-DMA stall comes before the transaction is R113 and R465, the spec's decision D15. -/
def Obligations.DeviceTickOrder : Prop :=
  ∀ (s : State) (a : Word) (v : Byte),
    let units := (State.ppuDots (if s.doubleSpeed then 2 else 4) s.oamDmaStep.timerStep).serialStep.joypadStep
    s.deviceTick = { units with
      irq := { units.irq with flags := units.irq.flags ||| units.irq.req, req := 0 }
      oamDma := { units.oamDma with writtenThisCycle := false }
      mcycles := s.mcycles + 1 } ∧
    s.memWrite a v = { s.stallCheck.cpuWrite a v with trace := .write a v :: s.trace }.deviceTick ∧
    s.memReadValue a = s.stallCheck.cpuRead a ∧
    s.memReadState a = { s.stallCheck with trace := .read a (s.memReadValue a) :: s.trace }.deviceTick ∧
    s.idle = { s.stallCheck with trace := .idle :: s.trace }.deviceTick

/-- The boot ROM overlay: what it shows while mapped, that writes under it are dropped, that the header window and every
other address below 8000 stay the cartridge's, on each model (R84, R86); that a write to FF50 with bit 0 set unmaps it
(R67, where bit 0 is the spec's decision D29), and that no step maps it again (R67, R85). -/
def Obligations.BootOverlay : Prop :=
  (∀ (s : State) (a : Word) (v : Byte), s.bootMapped = true →
    (a.toNat < 0x100 ∨ s.params.model = .cgb ∧ 0x200 ≤ a.toNat ∧ a.toNat < 0x900 →
      s.rawRead a = s.bootRom.read a.toNat ∧ s.rawWrite a v = s) ∧
    (0x100 ≤ a.toNat ∧ a.toNat < 0x200 ∨ s.params.model = .dmg ∧ 0x200 ≤ a.toNat ∧ a.toNat < 0x8000 ∨
        0x900 ≤ a.toNat ∧ a.toNat < 0x8000 →
      s.rawRead a = s.cartRead a ∧ s.rawWrite a v = s)) ∧
  (∀ (s : State) (a : Word) (v : Byte), s.bootMapped = false → a.toNat < 0x8000 →
    s.rawRead a = s.cartRead a ∧ s.rawWrite a v = s) ∧
  (∀ (s : State) (v : Byte), s.rawWrite 0xFF50 v = { s with bootMapped := if v.getLsbD 0 then false else s.bootMapped }) ∧
  (∀ s t : State, step s = .next t → s.bootMapped = false → t.bootMapped = false)

/-! ## Timer, joypad, serial port -/

/-- `TimerStep()` (R392, with the signal and the increment of R391): the reload, the advance by four, the falling edge. -/
def Obligations.TimerAdvances : Prop :=
  ∀ s : State,
    let t := s.timer
    let u := s.timerStep.timer
    let bit : Nat := if t.tac.extractLsb' 0 2 = (0 : BitVec 2) then 9 else if t.tac.extractLsb' 0 2 = (1 : BitVec 2) then 3
      else if t.tac.extractLsb' 0 2 = (2 : BitVec 2) then 5 else 7
    let tima := if t.reloadPending then t.tma else t.tima
    let falls := t.tac.getLsbD 2 && t.counter.getLsbD bit && !(t.counter + 4).getLsbD bit
    u.counter = t.counter + 4 ∧ u.tma = t.tma ∧ u.tac = t.tac ∧
    u.tima = (if falls then tima + 1 else tima) ∧
    u.reloadPending = (falls && decide (tima = 0xFF)) ∧
    s.timerStep.irq = (if t.reloadPending then { s.irq with req := s.irq.req ||| 0b00100 } else s.irq)

/-- The four timer registers as a program writes and reads them (R393 to R397), as raw accesses. -/
def Obligations.TimerRegisters : Prop :=
  ∀ (s : State) (v : Byte),
    let t := s.timer
    let signal (u : Timer) : Bool := u.counter.getLsbD (timerBit u.tac) && u.tac.getLsbD 2
    let bump (u : Timer) : Timer :=
      if t.tima = 0xFF then { u with tima := 0x00, reloadPending := true } else { u with tima := t.tima + 1 }
    let noDiv := { t with counter := 0 }
    let newTac := { t with tac := v.extractLsb' 0 3 }
    s.rawRead 0xFF04 = t.counter.extractLsb' 8 8 ∧ s.rawRead 0xFF05 = t.tima ∧ s.rawRead 0xFF06 = t.tma ∧
    s.rawRead 0xFF07 = (0b11111 : BitVec 5) ++ t.tac ∧
    s.rawWrite 0xFF04 v = { s with timer := if signal t then bump noDiv else noDiv } ∧
    s.rawWrite 0xFF05 v = { s with timer := { t with tima := v, reloadPending := false } } ∧
    s.rawWrite 0xFF06 v = { s with timer := { t with tma := v, tima := if t.reloadPending then v else t.tima } } ∧
    s.rawWrite 0xFF07 v = { s with timer := if signal t && !signal newTac then bump newTac else newTac }

/-- The rates (R398): with the timer enabled and no overflow in between, TIMA goes up by exactly one in every 256, 4, 16
or 64 M-cycles, wherever the counter stands. -/
def Obligations.TimerRate : Prop :=
  ∀ (t : Timer) (k : Nat), t.tac.getLsbD 2 = true → t.reloadPending = false → t.tima.toNat + k < 256 →
    let period : Nat := if t.tac.extractLsb' 0 2 = (0 : BitVec 2) then 256 else if t.tac.extractLsb' 0 2 = (1 : BitVec 2)
      then 4 else if t.tac.extractLsb' 0 2 = (2 : BitVec 2) then 16 else 64
    (Nat.repeat Timer.step (k * period) t).tima.toNat = t.tima.toNat + k

/-- The joypad (R412 to R414): the nibble bit by bit, the JOYP register, and the request on a fall. -/
def Obligations.JoypadBehaves : Prop :=
  ∀ (s : State) (v : Byte),
    let b := s.buttons
    let directions := s.joypad.select.getLsbD 0 = false
    let actions := s.joypad.select.getLsbD 1 = false
    let n := s.joypad.nibble b
    (n.getLsbD 0 = false ↔ directions ∧ b.right = true ∨ actions ∧ b.a = true) ∧
    (n.getLsbD 1 = false ↔ directions ∧ b.left = true ∨ actions ∧ b.b = true) ∧
    (n.getLsbD 2 = false ↔ directions ∧ b.up = true ∨ actions ∧ b.select = true) ∧
    (n.getLsbD 3 = false ↔ directions ∧ b.down = true ∨ actions ∧ b.start = true) ∧
    s.rawRead 0xFF00 = (0b11 : BitVec 2) ++ s.joypad.select ++ n ∧
    s.rawWrite 0xFF00 v = { s with joypad := { s.joypad with select := v.extractLsb' 4 2 } } ∧
    s.joypadStep.joypad = { s.joypad with prev := n } ∧
    s.joypadStep.irq = (if s.joypad.prev &&& ~~~ n ≠ 0 then { s.irq with req := s.irq.req ||| 0b10000 } else s.irq)

/-- The serial port (R421, R422): what SC stores and reads, and the transfer that completes at once. -/
def Obligations.SerialCompletesAtOnce : Prop :=
  ∀ (s : State) (v : Byte),
    (s.params.model = .dmg →
      s.rawRead 0xFF02 = byteOfBits s.serial.start true true true true true true s.serial.internal ∧
      s.rawWrite 0xFF02 v = { s with serial := { s.serial with start := v.getLsbD 7, internal := v.getLsbD 0 } }) ∧
    (s.params.model = .cgb →
      s.rawRead 0xFF02 = byteOfBits s.serial.start true true true true true s.serial.fast s.serial.internal ∧
      s.rawWrite 0xFF02 v =
        { s with serial := { s.serial with start := v.getLsbD 7, fast := v.getLsbD 1, internal := v.getLsbD 0 } }) ∧
    (s.serial.start = true ∧ s.serial.internal = true →
      s.serialStep = { s with
        serial := { s.serial with sb := 0xFF, start := false }
        serialOut := s.serialOut ++ [s.serial.sb]
        irq := { s.irq with req := s.irq.req ||| 0b01000 } }) ∧
    (¬ (s.serial.start = true ∧ s.serial.internal = true) → s.serialStep = s)

/-! ## DMA -/

/-- The start of an OAM-DMA (R431, R432), also when one is running: a write to DMA requests it; that M-cycle leaves it
requested, the next makes it active at offset 0, and neither copies. No VRAM-DMA stalls the CPU meanwhile. -/
def Obligations.OamDmaStarts : Prop :=
  ∀ (s : State) (v : Byte), s.params.model = .dmg ∨ s.vdma.mode ≠ .hblank ∧ s.vdma.stallBlocks = 0 →
    let t := s.memWrite 0xFF46 v
    t.oamDma.status = .requested ∧ t.oamDma.page = v ∧ t.oam = s.oam ∧
    t.idle.oamDma.status = .active ∧ t.idle.oamDma.offset = 0 ∧ t.idle.oam = s.oam

/-- A whole OAM-DMA (R432, R433): 160 M-cycles copy 160 bytes of the source page, one each, and then the engine is idle
and OAM is in canonical form. The source is work RAM, where the device ticks write nothing; pages 0xE0 and above read
0x20 below. -/
def Obligations.OamDmaCopies : Prop :=
  ∀ s : State, s.oam.wf = true → s.oamDma.status = .active → s.oamDma.offset = 0 → 0xC0 ≤ s.oamDma.page.toNat →
    let page : Byte := if 0xE0 ≤ s.oamDma.page.toNat then s.oamDma.page - 0x20 else s.oamDma.page
    let t := Nat.repeat State.deviceTick 160 s
    t.oamDma.status = .idle ∧ t.oam.wf = true ∧
    (∀ i < 160, t.oam.read i = s.rawRead (wordOf page (BitVec.ofNat 8 i))) ∧
    ∀ k < 160, (Nat.repeat State.deviceTick k s).oamDma.status = .active ∧
      (Nat.repeat State.deviceTick k s).oamDma.offset = k

/-- A write to HDMA5 (R452) and its read (R458), on `Cgb`; on `Dmg` the register does not exist (R468). -/
def Obligations.Hdma5 : Prop :=
  ∀ (s : State) (v : Byte),
    let d := s.vdma
    let src : Word := wordOf d.hdma1 (d.hdma2 &&& 0xF0)
    let dst : Word := wordOf (0x80 ||| (d.hdma3 &&& 0x1F)) (d.hdma4 &&& 0xF0)
    let blocks : Nat := v.toNat % 128 + 1
    (s.params.model = .cgb →
      s.rawRead 0xFF55 = BitVec.ofNat 8 ((if d.mode = .hblank then 0 else 128) + (d.remaining + 127) % 128) ∧
      (d.mode = .hblank → v.toNat < 128 → s.rawWrite 0xFF55 v = { s with vdma := { d with mode := .idle } }) ∧
      (d.mode ≠ .hblank → v.toNat < 128 → s.rawWrite 0xFF55 v =
        { s with vdma := { d with mode := .general, src := src, dst := dst, remaining := blocks, stallBlocks := blocks } }) ∧
      (128 ≤ v.toNat → s.rawWrite 0xFF55 v =
        { s with vdma := { d with mode := .hblank, src := src, dst := dst, remaining := blocks } })) ∧
    (s.params.model = .dmg → s.rawRead 0xFF55 = 0xFF ∧ s.rawWrite 0xFF55 v = s ∧ s.stallCheck = s)

/-- A General-DMA of `n` blocks (R464 to R466): it stalls the CPU for `8·n` M-cycles at single speed and `16·n` at double
speed, and is over before the CPU's next M-cycle; from a source in work RAM, the destination not wrapping, it copies its
bytes in order into the VRAM bank selected. -/
def Obligations.GeneralDma : Prop :=
  ∀ s : State, s.params.model = .cgb → s.vdma.mode = .general → 0 < s.vdma.remaining →
    s.vdma.stallBlocks = s.vdma.remaining →
    let n := s.vdma.remaining
    let t := s.stallCheck
    (t.mcycles = s.mcycles + (if s.doubleSpeed then 16 else 8) * n ∧
      t.vdma.mode = .idle ∧ t.vdma.remaining = 0 ∧ t.vdma.stallBlocks = 0 ∧
      t.vdma.src = s.vdma.src + BitVec.ofNat 16 (16 * n) ∧ t.cpu = s.cpu ∧ t.trace = s.trace) ∧
    (s.vram.wf = true → 0xC000 ≤ s.vdma.src.toNat → s.vdma.src.toNat + 16 * n ≤ 0xE000 →
      0x8000 ≤ s.vdma.dst.toNat → s.vdma.dst.toNat + 16 * n ≤ 0xA000 →
      ∀ i < 16 * n, t.vram.read (0x2000 * s.ppu.vbk.toNat + (s.vdma.dst.toNat - 0x8000) + i) =
        s.rawRead (s.vdma.src + BitVec.ofNat 16 i))

/-- The HBlank trigger (R453): on the dot that ends mode 3 one more block is due, on `Cgb`, with an HBlank-DMA running and
the CPU not halted or the parameter set; otherwise a dot leaves the engine as it was. -/
def Obligations.HblankTrigger : Prop :=
  ∀ s : State, s.ppu.dot + 1 < 456 →
    let t := s.ppuDot
    let entered := s.ppu.mode = .drawing ∧ t.ppu.mode = .hblank
    let armed := s.params.model = .cgb ∧ s.vdma.mode = .hblank ∧ (s.cpu.halted = false ∨ s.params.hdmaRunsWhileHalted = true)
    (entered ∧ armed → t.vdma = { s.vdma with stallBlocks := s.vdma.stallBlocks + 1 }) ∧
    (¬ (entered ∧ armed) → t.vdma = s.vdma)

/-! ## PPU -/

/-- The switching of the LCD (R486, with `BeginLine()` of R496), as a write to LCDC does it; while it is off the dots
change nothing: no mode, no line, no pixel, no request. -/
def Obligations.LcdSwitch : Prop :=
  ∀ (s : State) (v : Byte),
    let p := s.ppu
    let q := { p with lcdc := v }
    (p.lcdc.getLsbD 7 = v.getLsbD 7 → s.rawWrite 0xFF40 v = { s with ppu := q }) ∧
    (p.lcdc.getLsbD 7 = true → v.getLsbD 7 = false →
      s.rawWrite 0xFF40 v = { s with ppu := { q with mode := .hblank, ly := 0, dot := 0, statLine := false } }) ∧
    (p.lcdc.getLsbD 7 = false → v.getLsbD 7 = true →
      s.rawWrite 0xFF40 v =
        ({ s with ppu := { q with
            ly := 0, dot := 0, windowLine := 0, winActive := false, mode := .oamScan
            wyReached := decide (p.wy = 0) } } : State).statUpdate) ∧
    (p.lcdc.getLsbD 7 = false → ∀ n, State.ppuDots n s = s)

/-- `StatUpdate()` (R491, with the coincidence of R490): the line is the OR of the enabled sources, and only its rise
requests the LcdStat interrupt. -/
def Obligations.StatLineRises : Prop :=
  ∀ s : State,
    let p := s.ppu
    let line := (p.statEnable.getLsbD 3 = true ∧ p.ly = p.lyc) ∨ (p.statEnable.getLsbD 2 = true ∧ p.mode = .oamScan) ∨
      (p.statEnable.getLsbD 1 = true ∧ p.mode = .vblank) ∨ (p.statEnable.getLsbD 0 = true ∧ p.mode = .hblank)
    (p.lcdc.getLsbD 7 = false → s.statUpdate = s) ∧
    (p.lcdc.getLsbD 7 = true →
      (s.statUpdate.ppu.statLine = true ↔ line) ∧ s.statUpdate.ppu = { p with statLine := s.statUpdate.ppu.statLine } ∧
      (line → p.statLine = false → s.statUpdate.irq = { s.irq with req := s.irq.req ||| 0b00010 }) ∧
      (¬ line ∨ p.statLine = true → s.statUpdate.irq = s.irq)) ∧
    s.rawRead 0xFF41 = (1 : BitVec 1) ++ p.statEnable ++ bitOf (decide (p.ly = p.lyc)) ++ p.mode.bits

/-- The schedule (R480, R495): while the LCD is on, the place `456·LY + dot` advances by one every dot, modulo the 70,224
dots of a frame. -/
def Obligations.DotSchedule : Prop :=
  ∀ (v : Video) (p : Ppu) (n : Nat), p.Ok → p.lcdc.getLsbD 7 = true →
    let place (q : Ppu) : Nat := 456 * q.ly.toNat + q.dot
    let after := Nat.repeat (fun q : Ppu => (q.dotStep v).ppu) n p
    place after = (place p + n) % 70224

/-- The OAM scan (R500): at most ten sprites, each of which covers the line, in X order, equal X in OAM order. -/
def Obligations.OamScanSelects : Prop :=
  ∀ (v : Video) (p : Ppu),
    let h : Nat := if p.lcdc.getLsbD 2 then 16 else 8
    let covers (i : Nat) : Prop := (v.oam.read (4 * i)).toNat ≤ p.ly.toNat + 16 ∧
      p.ly.toNat + 16 < (v.oam.read (4 * i)).toNat + h
    let l := (p.oamScan v).lineSprites
    l.length ≤ 10 ∧
    (∀ s ∈ l, s.i < 40 ∧ covers s.i ∧ s.y = v.oam.read (4 * s.i) ∧ s.x = v.oam.read (4 * s.i + 1) ∧
      s.t = v.oam.read (4 * s.i + 2) ∧ s.a = v.oam.read (4 * s.i + 3) ∧ s.done = false) ∧
    l.Pairwise (fun s t => s.x.toNat < t.x.toNat ∨ s.x = t.x ∧ s.i < t.i) ∧
    (∀ i < 40, covers i → (l.length < 10 ∨ ∃ s ∈ l, i < s.i) → ∃ s ∈ l, s.i = i)

/-- The length of mode 3 without sprites and window (R506): from the last dot of mode 2, mode 3 lasts 172 dots and as many
more as the fine scroll, whatever the memories hold. -/
def Obligations.Mode3Length : Prop :=
  ∀ (v : Video) (p : Ppu), p.lcdc.getLsbD 7 = true → p.lcdc.getLsbD 1 = false → p.lcdc.getLsbD 5 = false →
    p.mode = .oamScan → p.dot = 79 →
    let after (n : Nat) : Ppu := Nat.repeat (fun q : Ppu => (q.dotStep v).ppu) n p
    let length : Nat := 172 + p.scx.toNat % 8
    (∀ n, 1 ≤ n → n ≤ length → (after n).mode = .drawing) ∧ (after (length + 1)).mode = .hblank ∧
    (after (length + 1)).pipe.lx = 160

/-- Which of two sprite pixels wins a slot (R536, R541): an empty or transparent slot is taken; otherwise only on `Cgb`
with OPRI 0 does a visible pixel of a lower OAM index take it. Then mixing: on `Dmg` (R543) when the sprite pixel shows, and
through which palette register each pixel goes; on `Cgb` (R544) when it shows, and which colour-RAM entry each pixel is,
the low byte first. -/
def Obligations.PixelPriority : Prop :=
  ∀ (v : Video) (p : Ppu),
    (∀ px cur : ObjPixel,
      slotTaken v p px none = true ∧
      (slotTaken v p px (some cur) = true ↔
        cur.color = 0 ∨ v.params.model = .cgb ∧ p.opri.getLsbD 0 = false ∧ px.color ≠ 0 ∧ px.idx < cur.idx)) ∧
    (∀ (bg : BgPixel) (o : Option ObjPixel), v.params.model = .dmg →
      let bgc : BitVec 2 := if p.lcdc.getLsbD 0 then bg.color else 0
      let shade (reg : Byte) (c : BitVec 2) : BitVec 2 := reg.extractLsb' (2 * c.toNat) 2
      (∀ q, o = some q → q.color ≠ 0 → p.lcdc.getLsbD 1 = true → ¬ (q.bgpri = true ∧ bgc ≠ 0) →
        p.mix v bg o = if q.pal = 1 then v.params.shadesObj1.get (shade p.obp1 q.color)
          else v.params.shadesObj0.get (shade p.obp0 q.color)) ∧
      ((∀ q, o = some q → q.color = 0 ∨ p.lcdc.getLsbD 1 = false ∨ q.bgpri = true ∧ bgc ≠ 0) →
        p.mix v bg o = v.params.shadesBg.get (shade p.bgp bgc))) ∧
    (∀ (bg : BgPixel) (o : Option ObjPixel), v.params.model = .cgb →
      let wins (q : ObjPixel) : Prop := q.color ≠ 0 ∧ p.lcdc.getLsbD 1 = true ∧
        ¬ (p.lcdc.getLsbD 0 = true ∧ bg.color ≠ 0 ∧ (bg.pri = true ∨ q.bgpri = true))
      let entry (m : Memory) (pal : BitVec 3) (c : BitVec 2) : BitVec 15 :=
        (m.read (8 * pal.toNat + 2 * c.toNat + 1)).extractLsb' 0 7 ++ m.read (8 * pal.toNat + 2 * c.toNat)
      (∀ q, o = some q → wins q → p.mix v bg o = Config.rgb555ToRgba (entry v.objCram q.pal q.color)) ∧
      ((∀ q, o = some q → ¬ wins q) → p.mix v bg o = Config.rgb555ToRgba (entry v.bgCram bg.pal bg.color)))

/-- The colour-RAM port on `Cgb` (R546): a data write stores at the index and moves it only with the increment bit set, a
read moves nothing. -/
def Obligations.ColourRamPort : Prop :=
  ∀ (s : State) (v : Byte), s.params.model = .cgb →
    let next (k : PalIndex) : PalIndex := if k.inc then { k with index := k.index + 1 } else k
    s.rawRead 0xFF68 = bitOf s.ppu.bcps.inc ++ (1 : BitVec 1) ++ s.ppu.bcps.index ∧
    s.rawWrite 0xFF68 v = { s with ppu := { s.ppu with bcps := { inc := v.getLsbD 7, index := v.extractLsb' 0 6 } } } ∧
    s.rawRead 0xFF69 = s.bgCram.read s.ppu.bcps.index.toNat ∧
    s.rawWrite 0xFF69 v = { s with
      bgCram := s.bgCram.write s.ppu.bcps.index.toNat v, ppu := { s.ppu with bcps := next s.ppu.bcps } } ∧
    s.rawRead 0xFF6A = bitOf s.ppu.ocps.inc ++ (1 : BitVec 1) ++ s.ppu.ocps.index ∧
    s.rawWrite 0xFF6A v = { s with ppu := { s.ppu with ocps := { inc := v.getLsbD 7, index := v.extractLsb' 0 6 } } } ∧
    s.rawRead 0xFF6B = s.objCram.read s.ppu.ocps.index.toNat ∧
    s.rawWrite 0xFF6B v = { s with
      objCram := s.objCram.write s.ppu.ocps.index.toNat v, ppu := { s.ppu with ocps := next s.ppu.ocps } }

/-! ## Reset and the invariant -/

/-- The power-on form of reset (R581), whatever the launch supplies. -/
def Obligations.PowerOnReset : Prop :=
  ∀ k : Launch,
    let s := State.powerOn k
    (s.cpu.pc = 0x0000 ∧ s.cpu.ime = .disabled ∧ s.cpu.halted = false) ∧
    (s.irq = { ie := 0, flags := 0, req := 0 } ∧ s.rawRead 0xFF0F = 0xE0) ∧
    s.timer = { counter := 0, tima := 0, tma := 0, tac := 0, reloadPending := false } ∧
    s.joypad = { select := 0b11, prev := 0xF } ∧
    (s.serial.sb = 0 ∧ s.serial.start = false ∧ s.serial.fast = false ∧ s.serial.internal = false) ∧
    s.oamDma = { status := .idle, page := 0, offset := 0, writtenThisCycle := false } ∧
    s.vdma = { mode := .idle, src := 0, dst := 0, remaining := 0, stallBlocks := 0, hdma1 := 0, hdma2 := 0, hdma3 := 0, hdma4 := 0 } ∧
    (s.ppu.lcdc = 0 ∧ s.ppu.statEnable = 0 ∧ s.ppu.scy = 0 ∧ s.ppu.scx = 0 ∧ s.ppu.ly = 0 ∧ s.ppu.lyc = 0 ∧ s.ppu.bgp = 0 ∧
      s.ppu.obp0 = 0 ∧ s.ppu.obp1 = 0 ∧ s.ppu.wy = 0 ∧ s.ppu.wx = 0 ∧ s.ppu.vbk = 0 ∧
      s.ppu.bcps = { inc := false, index := 0 } ∧ s.ppu.ocps = { inc := false, index := 0 } ∧ s.ppu.opri = 0) ∧
    (s.ppu.mode = .hblank ∧ s.ppu.dot = 0 ∧ s.ppu.statLine = false ∧ s.ppu.lineSprites = [] ∧ s.ppu.wyReached = false ∧
      s.ppu.windowLine = 0 ∧ s.ppu.winActive = false) ∧
    (s.bootMapped = true ∧ s.svbk = 0 ∧ s.doubleSpeed = false ∧ s.key1Armed = false ∧ s.mcycles = 0) ∧
    (s.cpu.a = k.a ∧ s.cpu.f = k.f ∧ s.cpu.b = k.b ∧ s.cpu.c = k.c ∧ s.cpu.d = k.d ∧ s.cpu.e = k.e ∧ s.cpu.h = k.h ∧
      s.cpu.l = k.l ∧ s.cpu.sp = k.sp) ∧
    (s.vram = k.vram ∧ s.oam = k.oam ∧ s.wram = k.wram ∧ s.hram = k.hram ∧ s.bgCram = k.bgCram ∧ s.objCram = k.objCram ∧
      s.frameBuffer = k.frameBuffer) ∧
    State.reset = State.powerOn Launch.default

/-- The post-boot form of reset (R583), whatever the launch and the caller supply: what the rule leaves unspecified, `LY`,
`mode` and `dot` among it, is the caller's, and a place on the schedule of R480 meets the PPU's part of the invariant. Then
`reset()` (R580, R582), of a machine that stands anywhere: the form that was loaded is applied again, in priority over
everything, with the cartridge, the boot ROM, the buttons and what the serial sink received kept; the model stays, and the
form too. Where a step leaves the machine, a faulted one too, it has the arguments and the ROMs it was loaded with. -/
def Obligations.PostBootReset : Prop :=
  (∀ (k : Launch) (x : PostBootArgs),
    let s := State.postBoot k x
    let af := s.cpu.stkPair .af
    (k.params.model = .dmg → af = 0x01B0 ∧ s.cpu.bc = 0x0013 ∧ s.cpu.de = 0x00D8 ∧ s.cpu.hl = 0x014D ∧ s.oamDma.page = 0xFF) ∧
    (k.params.model = .cgb → af = 0x1180 ∧ s.cpu.bc = 0x0000 ∧ s.cpu.de = 0xFF56 ∧ s.cpu.hl = 0x000D ∧ s.oamDma.page = 0x00) ∧
    (s.cpu.sp = 0xFFFE ∧ s.cpu.pc = 0x0100 ∧ s.rawRead 0xFF0F = 0xE1 ∧ s.irq.ie = 0 ∧ s.cpu.ime = .disabled ∧
      s.cpu.halted = false ∧ s.bootMapped = false) ∧
    (s.ppu.lcdc = 0x91 ∧ s.ppu.statEnable = 0 ∧ s.ppu.scy = 0 ∧ s.ppu.scx = 0 ∧ s.ppu.lyc = 0 ∧ s.ppu.wy = 0 ∧
      s.ppu.wx = 0 ∧ s.ppu.bgp = 0xFC ∧ s.ppu.obp0 = x.obp0 ∧ s.ppu.obp1 = x.obp1) ∧
    (s.ppu.ly = x.ly ∧ s.ppu.mode = x.mode ∧ s.ppu.dot = x.dot ∧ (x.OnSchedule → s.ppu.Ok)) ∧
    s.timer = { counter := x.counter, tima := 0, tma := 0, tac := 0, reloadPending := false } ∧
    s.joypad = { select := 0b11, prev := 0xF } ∧ s.serial.sb = 0 ∧ s.vdma = (State.powerOn k).vdma ∧
    (s.vram = k.vram ∧ s.oam = k.oam ∧ s.wram = k.wram ∧ s.hram = k.hram ∧ s.bgCram = k.bgCram ∧ s.objCram = k.objCram)) ∧
  (∀ (s : State) (k : Launch) (x : PostBootArgs),
    let l : Launch :=
      { k with params := s.params, cart := s.cart, bootRom := s.bootRom, buttons := s.buttons, inputs := s.inputs }
    let t := s.hostReset k x
    (s.params.resetForm = .powerOn → t = { State.powerOn l with serialOut := s.serialOut }) ∧
    (s.params.resetForm = .postBoot → t = { State.postBoot l x with serialOut := s.serialOut }) ∧
    t.params = s.params ∧ t.cart = s.cart ∧ t.bootRom = s.bootRom ∧ t.buttons = s.buttons ∧ t.serialOut = s.serialOut) ∧
  (∀ s t : State, step s = .next t → s.afterStep = t) ∧
  (∀ s : State, s.afterStep.params = s.params ∧ s.afterStep.cart = s.cart ∧ s.afterStep.bootRom = s.bootRom)

/-- The invariant holds after reset. Its memory part rests on the model's choice of empty memories (log entry 7). -/
def Obligations.ResetMeetsInvariant : Prop := State.reset.Inv

/-- Every step keeps the invariant: memories canonical and within their sizes, the PPU on its schedule with its buffers
bounded, the DMA counters in range, no request waiting, and on `Dmg` no state of the colour model. -/
def Obligations.StepKeepsInvariant : Prop :=
  ∀ s t : State, s.Inv → step s = .next t → t.Inv
end

