-- ==== Sys2Proof/Laws/Memory.lean ====
section
/-! SUPPORT. The laws of sparse data: a read after a write, and that a write keeps the canonical form. -/

namespace Sys2Proof.Machine

variable {w : Nat}

@[simp] theorem Sparse.read_nil (k : Nat) : Sparse.read ([] : Sparse w) k = 0 := rfl

/-- Nothing is listed at or below a bound that all keys exceed. -/
theorem Sparse.read_of_wfAbove {b : Nat} {m : Sparse w} (h : Sparse.wfAbove b m = true) {k : Nat} (hk : k ≤ b) :
    Sparse.read m k = 0 := by
  cases m with
  | nil => rfl
  | cons e m =>
    obtain ⟨j, v⟩ := e
    simp only [Sparse.wfAbove, Bool.and_eq_true, decide_eq_true_eq] at h
    have h1 : k ≠ j := by omega
    have h2 : k < j := by omega
    simp [Sparse.read, h1, h2, Sparse.unlisted]

theorem Sparse.wf_of_wfAbove {b : Nat} {m : Sparse w} (h : Sparse.wfAbove b m = true) : Sparse.wf m = true := by
  cases m with
  | nil => rfl
  | cons e m => simp_all [Sparse.wfAbove, Sparse.wf]

theorem Sparse.wfAbove_mono {a b : Nat} (hab : a ≤ b) {m : Sparse w} (h : Sparse.wfAbove b m = true) :
    Sparse.wfAbove a m = true := by
  cases m with
  | nil => rfl
  | cons e m =>
    simp only [Sparse.wfAbove, Bool.and_eq_true, decide_eq_true_eq] at h ⊢
    exact ⟨⟨by omega, h.1.2⟩, h.2⟩

theorem Sparse.wfAbove_consNonzero {b k : Nat} (hb : b < k) {v : BitVec w} {m : Sparse w}
    (h : Sparse.wfAbove k m = true) : Sparse.wfAbove b (Sparse.consNonzero k v m) = true := by
  unfold Sparse.consNonzero
  split
  · exact Sparse.wfAbove_mono (by omega) h
  · simp_all [Sparse.wfAbove]

theorem Sparse.wfAbove_write {b k : Nat} (hb : b < k) {v : BitVec w} {m : Sparse w}
    (h : Sparse.wfAbove b m = true) : Sparse.wfAbove b (Sparse.write m k v) = true := by
  induction m generalizing b with
  | nil => exact Sparse.wfAbove_consNonzero hb rfl
  | cons e m ih =>
    obtain ⟨j, u⟩ := e
    have h' := h
    simp only [Sparse.wfAbove, Bool.and_eq_true, decide_eq_true_eq] at h
    simp only [Sparse.write]
    split
    · next hkj =>
      refine Sparse.wfAbove_consNonzero hb ?_
      simp only [Sparse.wfAbove, Bool.and_eq_true, decide_eq_true_eq]
      exact ⟨⟨hkj, h.1.2⟩, h.2⟩
    · split
      · next _ hkj => subst hkj; exact Sparse.wfAbove_consNonzero hb h.2
      · have := ih (b := j) (by omega) h.2
        simp only [Sparse.wfAbove, Bool.and_eq_true, decide_eq_true_eq]
        exact ⟨h.1, this⟩

/-- A write keeps the canonical form. -/
theorem Sparse.wf_write {m : Sparse w} (h : Sparse.wf m = true) (k : Nat) (v : BitVec w) :
    Sparse.wf (Sparse.write m k v) = true := by
  cases m with
  | nil => simp only [Sparse.write, Sparse.consNonzero]; split <;> simp_all [Sparse.wf, Sparse.wfAbove]
  | cons e m =>
    obtain ⟨j, u⟩ := e
    simp only [Sparse.wf, Bool.and_eq_true, decide_eq_true_eq] at h
    simp only [Sparse.write]
    split
    · next hkj =>
      unfold Sparse.consNonzero
      split <;> simp_all [Sparse.wf, Sparse.wfAbove]
    · split
      · next _ hkj =>
        subst hkj
        unfold Sparse.consNonzero
        split
        · exact Sparse.wf_of_wfAbove h.2
        · simp_all [Sparse.wf]
      · simp only [Sparse.wf, Bool.and_eq_true, decide_eq_true_eq]
        exact ⟨h.1, Sparse.wfAbove_write (by omega) h.2⟩

/-- A write below a bound keeps every key below it. -/
theorem Sparse.below_write {n k : Nat} (hk : k < n) {m : Sparse w} (h : Sparse.below n m = true) (v : BitVec w) :
    Sparse.below n (Sparse.write m k v) = true := by
  induction m with
  | nil => simp only [Sparse.write, Sparse.consNonzero]; split <;> simp [Sparse.below, hk]
  | cons e m ih =>
    obtain ⟨j, u⟩ := e
    simp only [Sparse.below, Bool.and_eq_true, decide_eq_true_eq] at h
    simp only [Sparse.write]
    split
    · unfold Sparse.consNonzero; split <;> simp_all [Sparse.below]
    · split
      · unfold Sparse.consNonzero; split <;> simp_all [Sparse.below]
      · simp_all [Sparse.below]

theorem Sparse.read_write_above {b k : Nat} (hb : b < k) {v : BitVec w} {m : Sparse w}
    (h : Sparse.wfAbove b m = true) (j : Nat) :
    Sparse.read (Sparse.write m k v) j = if j = k then v else Sparse.read m j := by
  induction m generalizing b with
  | nil =>
    simp only [Sparse.write, Sparse.consNonzero]
    split <;> simp_all [Sparse.read, Sparse.unlisted]
  | cons e m ih =>
    obtain ⟨i, u⟩ := e
    simp only [Sparse.wfAbove, Bool.and_eq_true, decide_eq_true_eq] at h
    simp only [Sparse.write]
    split
    · next hki =>
      unfold Sparse.consNonzero
      split
      · next hv =>
        by_cases hj : j = k
        · subst hj
          have h1 : j ≠ i := by omega
          simp [Sparse.read, h1, hki, hv]
        · simp [hj]
      · by_cases hj : j = k
        · simp [Sparse.read, hj]
        · simp only [Sparse.read, hj, if_false]
          by_cases hjk : j < k
          · have h1 : j ≠ i := by omega
            have h2 : j < i := by omega
            simp [hjk, h1, h2]
          · simp [hjk]
    · next hki =>
      split
      · next hke =>
        subst hke
        unfold Sparse.consNonzero
        split
        · next hv =>
          by_cases hj : j = k
          · subst hj; simp [hv, Sparse.read_of_wfAbove h.2 (Nat.le_refl _), Sparse.unlisted]
          · simp only [hj, if_false, Sparse.read]
            by_cases hjk : j < k
            · simp [hjk, Sparse.read_of_wfAbove h.2 (Nat.le_of_lt hjk), Sparse.unlisted]
            · simp [hjk]
        · by_cases hj : j = k <;> simp [Sparse.read, hj]
      · next hne =>
        have hlt : i < k := by omega
        simp only [Sparse.read]
        by_cases hji : j = i
        · have : j ≠ k := by omega
          simp [hji]; omega
        · by_cases hlt2 : j < i
          · have : j ≠ k := by omega
            simp [hji, hlt2, this]
          · simp only [hji, hlt2, if_false]; exact ih hlt h.2

/-- Reading after a write in a canonical memory. -/
theorem Sparse.read_write {m : Sparse w} (h : Sparse.wf m = true) (k : Nat) (v : BitVec w) (j : Nat) :
    Sparse.read (Sparse.write m k v) j = if j = k then v else Sparse.read m j := by
  cases m with
  | nil =>
    simp only [Sparse.write, Sparse.consNonzero]
    split <;> simp_all [Sparse.read, Sparse.unlisted]
  | cons e m =>
    obtain ⟨i, u⟩ := e
    simp only [Sparse.wf, Bool.and_eq_true, decide_eq_true_eq] at h
    by_cases hik : i < k
    · have hk : ¬ k < i := by omega
      have hk2 : k ≠ i := by omega
      simp only [Sparse.write, hk, hk2, if_false, Sparse.read]
      by_cases hji : j = i
      · have : j ≠ k := by omega
        simp [hji]; omega
      · by_cases hlt : j < i
        · have : j ≠ k := by omega
          simp [hji, hlt, this]
        · simp only [hji, hlt, if_false]
          exact Sparse.read_write_above hik h.2 j
    · cases Nat.lt_or_ge k i with
      | inl hki =>
        simp only [Sparse.write, hki, if_true, Sparse.consNonzero]
        split
        · next hv =>
          by_cases hj : j = k
          · subst hj
            have h1 : j ≠ i := by omega
            simp [Sparse.read, h1, hki, hv]
          · simp [hj]
        · by_cases hj : j = k
          · simp [Sparse.read, hj]
          · simp only [Sparse.read, hj, if_false]
            by_cases hjk : j < k
            · have h1 : j ≠ i := by omega
              have h2 : j < i := by omega
              simp [hjk, h1, h2]
            · simp [hjk]
      | inr hki =>
        have hke : k = i := by omega
        subst hke
        simp only [Sparse.write, Nat.lt_irrefl, if_false, if_true, Sparse.consNonzero]
        split
        · next hv =>
          by_cases hj : j = k
          · subst hj; simp [hv, Sparse.read_of_wfAbove h.2 (Nat.le_refl _), Sparse.unlisted]
          · simp only [hj, if_false, Sparse.read]
            by_cases hjk : j < k
            · simp [hjk, Sparse.read_of_wfAbove h.2 (Nat.le_of_lt hjk), Sparse.unlisted]
            · simp [hjk]
        · by_cases hj : j = k <;> simp [Sparse.read, hj]

/-! ## Memories -/

/-- A memory's byte after a write. -/
theorem Memory.read_write {m : Memory} (h : m.wf = true) (k : Nat) (v : Byte) (j : Nat) :
    (m.write k v).read j = if j = k then v else m.read j := Sparse.read_write h k v j

theorem Memory.read_write_same {m : Memory} (h : m.wf = true) (k : Nat) (v : Byte) : (m.write k v).read k = v := by
  simp [Memory.read_write h]

theorem Memory.read_write_ne {m : Memory} (h : m.wf = true) {j k : Nat} (hne : j ≠ k) (v : Byte) :
    (m.write k v).read j = m.read j := by simp [Memory.read_write h, hne]

theorem Memory.wf_write {m : Memory} (h : m.wf = true) (k : Nat) (v : Byte) : (m.write k v).wf = true :=
  Sparse.wf_write h k v

theorem Memory.below_write {n k : Nat} (hk : k < n) {m : Memory} (h : m.below n = true) (v : Byte) :
    (m.write k v).below n = true := Sparse.below_write hk h v

end Sys2Proof.Machine
end

