-- ==== Sys2Proof/Laws/Ppu.lean ====
section
/-! SUPPORT. What a dot of the PPU leaves as it was: the registers that software writes (65_ppu.md R485). -/

namespace Sys2Proof.Machine

/-- The registers of the PPU that only a CPU write changes (R38, R485). -/
structure PpuRegs where
  lcdc : Byte
  statEnable : BitVec 4
  scy : Byte
  scx : Byte
  lyc : Byte
  bgp : Byte
  obp0 : Byte
  obp1 : Byte
  wy : Byte
  wx : Byte
  vbk : BitVec 1
  bcps : PalIndex
  ocps : PalIndex
  opri : BitVec 1

/-- The registers of a PPU. -/
def Ppu.regs (p : Ppu) : PpuRegs :=
  { lcdc := p.lcdc, statEnable := p.statEnable, scy := p.scy, scx := p.scx, lyc := p.lyc, bgp := p.bgp, obp0 := p.obp0,
    obp1 := p.obp1, wy := p.wy, wx := p.wx, vbk := p.vbk, bcps := p.bcps, ocps := p.ocps, opri := p.opri }

@[simp] theorem Ppu.beginLine_regs (p : Ppu) : p.beginLine.regs = p.regs := by
  unfold Ppu.beginLine; split <;> rfl

@[simp] theorem Ppu.statUpdate_regs (p : Ppu) : p.statUpdate.regs = p.regs := by
  unfold Ppu.statUpdate; split <;> rfl

@[simp] theorem Ppu.oamScan_regs (v : Video) (p : Ppu) : (p.oamScan v).regs = p.regs := rfl

@[simp] theorem Ppu.startMode3_regs (p : Ppu) : p.startMode3.regs = p.regs := rfl

@[simp] theorem Ppu.bgFetchStep_regs (v : Video) (p : Ppu) : (p.bgFetchStep v).regs = p.regs := by
  unfold Ppu.bgFetchStep
  simp only
  split
  · rfl
  · split <;> rfl
  · split <;> rfl
  · split
    · rfl
    · split <;> rfl

@[simp] theorem Ppu.drawStep_regs (v : Video) (p : Ppu) : (p.drawStep v).ppu.regs = p.regs := by
  unfold Ppu.drawStep
  split
  · rfl
  · split
    · rfl
    · split
      · rfl
      · unfold Ppu.popPixel; split <;> rfl

@[simp] theorem Ppu.spriteStep_regs (v : Video) (p : Ppu) (f : SpriteFetch) : (p.spriteStep v f).regs = p.regs := by
  unfold Ppu.spriteStep; split <;> rfl

@[simp] theorem Ppu.mode3Dot_regs (v : Video) (p : Ppu) : (p.mode3Dot v).ppu.regs = p.regs := by
  unfold Ppu.mode3Dot; split <;> simp

@[simp] theorem Ppu.dotBody_regs (v : Video) (p : Ppu) : (p.dotBody v).ppu.regs = p.regs := by
  unfold Ppu.dotBody
  split
  · simp only; split <;> rfl
  · simp only; split <;> exact Ppu.mode3Dot_regs v p
  · rfl
  · rfl

@[simp] theorem Ppu.nextLine_regs (p : Ppu) : p.nextLine.regs = p.regs := by
  unfold Ppu.nextLine; simp only; split
  · rfl
  · split <;> rfl

@[simp] theorem DotOut.endLine_regs (o : DotOut) : o.endLine.ppu.regs = o.ppu.regs := by
  unfold DotOut.endLine; split <;> simp

/-- A dot changes no register that software writes. -/
@[simp] theorem Ppu.dotStep_regs (v : Video) (p : Ppu) : (p.dotStep v).ppu.regs = p.regs := by
  unfold Ppu.dotStep; split <;> simp [DotOut.statEnd]

end Sys2Proof.Machine
end

