-- ==== Sys2Proof/Laws/State.lean ====
section
/-! SUPPORT. What each named update of the CPU does to each field: true by `rfl`, so that no proof unfolds a record
update. -/

namespace Sys2Proof.Machine

/-! ## `setPc` -/

@[simp] theorem State.setPc_cpu_a (s : State) (v : Word) : (s.setPc v).cpu.a = s.cpu.a := rfl
@[simp] theorem State.setPc_cpu_f (s : State) (v : Word) : (s.setPc v).cpu.f = s.cpu.f := rfl
@[simp] theorem State.setPc_cpu_b (s : State) (v : Word) : (s.setPc v).cpu.b = s.cpu.b := rfl
@[simp] theorem State.setPc_cpu_c (s : State) (v : Word) : (s.setPc v).cpu.c = s.cpu.c := rfl
@[simp] theorem State.setPc_cpu_d (s : State) (v : Word) : (s.setPc v).cpu.d = s.cpu.d := rfl
@[simp] theorem State.setPc_cpu_e (s : State) (v : Word) : (s.setPc v).cpu.e = s.cpu.e := rfl
@[simp] theorem State.setPc_cpu_h (s : State) (v : Word) : (s.setPc v).cpu.h = s.cpu.h := rfl
@[simp] theorem State.setPc_cpu_l (s : State) (v : Word) : (s.setPc v).cpu.l = s.cpu.l := rfl
@[simp] theorem State.setPc_cpu_sp (s : State) (v : Word) : (s.setPc v).cpu.sp = s.cpu.sp := rfl
@[simp] theorem State.setPc_cpu_pc (s : State) (v : Word) : (s.setPc v).cpu.pc = v := rfl
@[simp] theorem State.setPc_cpu_ime (s : State) (v : Word) : (s.setPc v).cpu.ime = s.cpu.ime := rfl
@[simp] theorem State.setPc_cpu_halted (s : State) (v : Word) : (s.setPc v).cpu.halted = s.cpu.halted := rfl
@[simp] theorem State.setPc_cpu_haltBugPending (s : State) (v : Word) : (s.setPc v).cpu.haltBugPending = s.cpu.haltBugPending := rfl
@[simp] theorem State.setPc_irq (s : State) (v : Word) : (s.setPc v).irq = s.irq := rfl
@[simp] theorem State.setPc_timer (s : State) (v : Word) : (s.setPc v).timer = s.timer := rfl
@[simp] theorem State.setPc_joypad (s : State) (v : Word) : (s.setPc v).joypad = s.joypad := rfl
@[simp] theorem State.setPc_serial (s : State) (v : Word) : (s.setPc v).serial = s.serial := rfl
@[simp] theorem State.setPc_oamDma (s : State) (v : Word) : (s.setPc v).oamDma = s.oamDma := rfl
@[simp] theorem State.setPc_vdma (s : State) (v : Word) : (s.setPc v).vdma = s.vdma := rfl
@[simp] theorem State.setPc_ppu (s : State) (v : Word) : (s.setPc v).ppu = s.ppu := rfl
@[simp] theorem State.setPc_vram (s : State) (v : Word) : (s.setPc v).vram = s.vram := rfl
@[simp] theorem State.setPc_oam (s : State) (v : Word) : (s.setPc v).oam = s.oam := rfl
@[simp] theorem State.setPc_wram (s : State) (v : Word) : (s.setPc v).wram = s.wram := rfl
@[simp] theorem State.setPc_hram (s : State) (v : Word) : (s.setPc v).hram = s.hram := rfl
@[simp] theorem State.setPc_bgCram (s : State) (v : Word) : (s.setPc v).bgCram = s.bgCram := rfl
@[simp] theorem State.setPc_objCram (s : State) (v : Word) : (s.setPc v).objCram = s.objCram := rfl
@[simp] theorem State.setPc_frameBuffer (s : State) (v : Word) : (s.setPc v).frameBuffer = s.frameBuffer := rfl
@[simp] theorem State.setPc_bootMapped (s : State) (v : Word) : (s.setPc v).bootMapped = s.bootMapped := rfl
@[simp] theorem State.setPc_svbk (s : State) (v : Word) : (s.setPc v).svbk = s.svbk := rfl
@[simp] theorem State.setPc_doubleSpeed (s : State) (v : Word) : (s.setPc v).doubleSpeed = s.doubleSpeed := rfl
@[simp] theorem State.setPc_key1Armed (s : State) (v : Word) : (s.setPc v).key1Armed = s.key1Armed := rfl
@[simp] theorem State.setPc_mcycles (s : State) (v : Word) : (s.setPc v).mcycles = s.mcycles := rfl
@[simp] theorem State.setPc_params (s : State) (v : Word) : (s.setPc v).params = s.params := rfl
@[simp] theorem State.setPc_cart (s : State) (v : Word) : (s.setPc v).cart = s.cart := rfl
@[simp] theorem State.setPc_bootRom (s : State) (v : Word) : (s.setPc v).bootRom = s.bootRom := rfl
@[simp] theorem State.setPc_buttons (s : State) (v : Word) : (s.setPc v).buttons = s.buttons := rfl
@[simp] theorem State.setPc_inputs (s : State) (v : Word) : (s.setPc v).inputs = s.inputs := rfl
@[simp] theorem State.setPc_trace (s : State) (v : Word) : (s.setPc v).trace = s.trace := rfl
@[simp] theorem State.setPc_serialOut (s : State) (v : Word) : (s.setPc v).serialOut = s.serialOut := rfl
@[simp] theorem State.setPc_framesDone (s : State) (v : Word) : (s.setPc v).framesDone = s.framesDone := rfl

/-! ## `setSp` -/

@[simp] theorem State.setSp_cpu_a (s : State) (v : Word) : (s.setSp v).cpu.a = s.cpu.a := rfl
@[simp] theorem State.setSp_cpu_f (s : State) (v : Word) : (s.setSp v).cpu.f = s.cpu.f := rfl
@[simp] theorem State.setSp_cpu_b (s : State) (v : Word) : (s.setSp v).cpu.b = s.cpu.b := rfl
@[simp] theorem State.setSp_cpu_c (s : State) (v : Word) : (s.setSp v).cpu.c = s.cpu.c := rfl
@[simp] theorem State.setSp_cpu_d (s : State) (v : Word) : (s.setSp v).cpu.d = s.cpu.d := rfl
@[simp] theorem State.setSp_cpu_e (s : State) (v : Word) : (s.setSp v).cpu.e = s.cpu.e := rfl
@[simp] theorem State.setSp_cpu_h (s : State) (v : Word) : (s.setSp v).cpu.h = s.cpu.h := rfl
@[simp] theorem State.setSp_cpu_l (s : State) (v : Word) : (s.setSp v).cpu.l = s.cpu.l := rfl
@[simp] theorem State.setSp_cpu_sp (s : State) (v : Word) : (s.setSp v).cpu.sp = v := rfl
@[simp] theorem State.setSp_cpu_pc (s : State) (v : Word) : (s.setSp v).cpu.pc = s.cpu.pc := rfl
@[simp] theorem State.setSp_cpu_ime (s : State) (v : Word) : (s.setSp v).cpu.ime = s.cpu.ime := rfl
@[simp] theorem State.setSp_cpu_halted (s : State) (v : Word) : (s.setSp v).cpu.halted = s.cpu.halted := rfl
@[simp] theorem State.setSp_cpu_haltBugPending (s : State) (v : Word) : (s.setSp v).cpu.haltBugPending = s.cpu.haltBugPending := rfl
@[simp] theorem State.setSp_irq (s : State) (v : Word) : (s.setSp v).irq = s.irq := rfl
@[simp] theorem State.setSp_timer (s : State) (v : Word) : (s.setSp v).timer = s.timer := rfl
@[simp] theorem State.setSp_joypad (s : State) (v : Word) : (s.setSp v).joypad = s.joypad := rfl
@[simp] theorem State.setSp_serial (s : State) (v : Word) : (s.setSp v).serial = s.serial := rfl
@[simp] theorem State.setSp_oamDma (s : State) (v : Word) : (s.setSp v).oamDma = s.oamDma := rfl
@[simp] theorem State.setSp_vdma (s : State) (v : Word) : (s.setSp v).vdma = s.vdma := rfl
@[simp] theorem State.setSp_ppu (s : State) (v : Word) : (s.setSp v).ppu = s.ppu := rfl
@[simp] theorem State.setSp_vram (s : State) (v : Word) : (s.setSp v).vram = s.vram := rfl
@[simp] theorem State.setSp_oam (s : State) (v : Word) : (s.setSp v).oam = s.oam := rfl
@[simp] theorem State.setSp_wram (s : State) (v : Word) : (s.setSp v).wram = s.wram := rfl
@[simp] theorem State.setSp_hram (s : State) (v : Word) : (s.setSp v).hram = s.hram := rfl
@[simp] theorem State.setSp_bgCram (s : State) (v : Word) : (s.setSp v).bgCram = s.bgCram := rfl
@[simp] theorem State.setSp_objCram (s : State) (v : Word) : (s.setSp v).objCram = s.objCram := rfl
@[simp] theorem State.setSp_frameBuffer (s : State) (v : Word) : (s.setSp v).frameBuffer = s.frameBuffer := rfl
@[simp] theorem State.setSp_bootMapped (s : State) (v : Word) : (s.setSp v).bootMapped = s.bootMapped := rfl
@[simp] theorem State.setSp_svbk (s : State) (v : Word) : (s.setSp v).svbk = s.svbk := rfl
@[simp] theorem State.setSp_doubleSpeed (s : State) (v : Word) : (s.setSp v).doubleSpeed = s.doubleSpeed := rfl
@[simp] theorem State.setSp_key1Armed (s : State) (v : Word) : (s.setSp v).key1Armed = s.key1Armed := rfl
@[simp] theorem State.setSp_mcycles (s : State) (v : Word) : (s.setSp v).mcycles = s.mcycles := rfl
@[simp] theorem State.setSp_params (s : State) (v : Word) : (s.setSp v).params = s.params := rfl
@[simp] theorem State.setSp_cart (s : State) (v : Word) : (s.setSp v).cart = s.cart := rfl
@[simp] theorem State.setSp_bootRom (s : State) (v : Word) : (s.setSp v).bootRom = s.bootRom := rfl
@[simp] theorem State.setSp_buttons (s : State) (v : Word) : (s.setSp v).buttons = s.buttons := rfl
@[simp] theorem State.setSp_inputs (s : State) (v : Word) : (s.setSp v).inputs = s.inputs := rfl
@[simp] theorem State.setSp_trace (s : State) (v : Word) : (s.setSp v).trace = s.trace := rfl
@[simp] theorem State.setSp_serialOut (s : State) (v : Word) : (s.setSp v).serialOut = s.serialOut := rfl
@[simp] theorem State.setSp_framesDone (s : State) (v : Word) : (s.setSp v).framesDone = s.framesDone := rfl

/-! ## `setA` -/

@[simp] theorem State.setA_cpu_a (s : State) (v : Byte) : (s.setA v).cpu.a = v := rfl
@[simp] theorem State.setA_cpu_f (s : State) (v : Byte) : (s.setA v).cpu.f = s.cpu.f := rfl
@[simp] theorem State.setA_cpu_b (s : State) (v : Byte) : (s.setA v).cpu.b = s.cpu.b := rfl
@[simp] theorem State.setA_cpu_c (s : State) (v : Byte) : (s.setA v).cpu.c = s.cpu.c := rfl
@[simp] theorem State.setA_cpu_d (s : State) (v : Byte) : (s.setA v).cpu.d = s.cpu.d := rfl
@[simp] theorem State.setA_cpu_e (s : State) (v : Byte) : (s.setA v).cpu.e = s.cpu.e := rfl
@[simp] theorem State.setA_cpu_h (s : State) (v : Byte) : (s.setA v).cpu.h = s.cpu.h := rfl
@[simp] theorem State.setA_cpu_l (s : State) (v : Byte) : (s.setA v).cpu.l = s.cpu.l := rfl
@[simp] theorem State.setA_cpu_sp (s : State) (v : Byte) : (s.setA v).cpu.sp = s.cpu.sp := rfl
@[simp] theorem State.setA_cpu_pc (s : State) (v : Byte) : (s.setA v).cpu.pc = s.cpu.pc := rfl
@[simp] theorem State.setA_cpu_ime (s : State) (v : Byte) : (s.setA v).cpu.ime = s.cpu.ime := rfl
@[simp] theorem State.setA_cpu_halted (s : State) (v : Byte) : (s.setA v).cpu.halted = s.cpu.halted := rfl
@[simp] theorem State.setA_cpu_haltBugPending (s : State) (v : Byte) : (s.setA v).cpu.haltBugPending = s.cpu.haltBugPending := rfl
@[simp] theorem State.setA_irq (s : State) (v : Byte) : (s.setA v).irq = s.irq := rfl
@[simp] theorem State.setA_timer (s : State) (v : Byte) : (s.setA v).timer = s.timer := rfl
@[simp] theorem State.setA_joypad (s : State) (v : Byte) : (s.setA v).joypad = s.joypad := rfl
@[simp] theorem State.setA_serial (s : State) (v : Byte) : (s.setA v).serial = s.serial := rfl
@[simp] theorem State.setA_oamDma (s : State) (v : Byte) : (s.setA v).oamDma = s.oamDma := rfl
@[simp] theorem State.setA_vdma (s : State) (v : Byte) : (s.setA v).vdma = s.vdma := rfl
@[simp] theorem State.setA_ppu (s : State) (v : Byte) : (s.setA v).ppu = s.ppu := rfl
@[simp] theorem State.setA_vram (s : State) (v : Byte) : (s.setA v).vram = s.vram := rfl
@[simp] theorem State.setA_oam (s : State) (v : Byte) : (s.setA v).oam = s.oam := rfl
@[simp] theorem State.setA_wram (s : State) (v : Byte) : (s.setA v).wram = s.wram := rfl
@[simp] theorem State.setA_hram (s : State) (v : Byte) : (s.setA v).hram = s.hram := rfl
@[simp] theorem State.setA_bgCram (s : State) (v : Byte) : (s.setA v).bgCram = s.bgCram := rfl
@[simp] theorem State.setA_objCram (s : State) (v : Byte) : (s.setA v).objCram = s.objCram := rfl
@[simp] theorem State.setA_frameBuffer (s : State) (v : Byte) : (s.setA v).frameBuffer = s.frameBuffer := rfl
@[simp] theorem State.setA_bootMapped (s : State) (v : Byte) : (s.setA v).bootMapped = s.bootMapped := rfl
@[simp] theorem State.setA_svbk (s : State) (v : Byte) : (s.setA v).svbk = s.svbk := rfl
@[simp] theorem State.setA_doubleSpeed (s : State) (v : Byte) : (s.setA v).doubleSpeed = s.doubleSpeed := rfl
@[simp] theorem State.setA_key1Armed (s : State) (v : Byte) : (s.setA v).key1Armed = s.key1Armed := rfl
@[simp] theorem State.setA_mcycles (s : State) (v : Byte) : (s.setA v).mcycles = s.mcycles := rfl
@[simp] theorem State.setA_params (s : State) (v : Byte) : (s.setA v).params = s.params := rfl
@[simp] theorem State.setA_cart (s : State) (v : Byte) : (s.setA v).cart = s.cart := rfl
@[simp] theorem State.setA_bootRom (s : State) (v : Byte) : (s.setA v).bootRom = s.bootRom := rfl
@[simp] theorem State.setA_buttons (s : State) (v : Byte) : (s.setA v).buttons = s.buttons := rfl
@[simp] theorem State.setA_inputs (s : State) (v : Byte) : (s.setA v).inputs = s.inputs := rfl
@[simp] theorem State.setA_trace (s : State) (v : Byte) : (s.setA v).trace = s.trace := rfl
@[simp] theorem State.setA_serialOut (s : State) (v : Byte) : (s.setA v).serialOut = s.serialOut := rfl
@[simp] theorem State.setA_framesDone (s : State) (v : Byte) : (s.setA v).framesDone = s.framesDone := rfl

/-! ## `setFlags` -/

@[simp] theorem State.setFlags_cpu_a (s : State) (v : Flags) : (s.setFlags v).cpu.a = s.cpu.a := rfl
@[simp] theorem State.setFlags_cpu_f (s : State) (v : Flags) : (s.setFlags v).cpu.f = v := rfl
@[simp] theorem State.setFlags_cpu_b (s : State) (v : Flags) : (s.setFlags v).cpu.b = s.cpu.b := rfl
@[simp] theorem State.setFlags_cpu_c (s : State) (v : Flags) : (s.setFlags v).cpu.c = s.cpu.c := rfl
@[simp] theorem State.setFlags_cpu_d (s : State) (v : Flags) : (s.setFlags v).cpu.d = s.cpu.d := rfl
@[simp] theorem State.setFlags_cpu_e (s : State) (v : Flags) : (s.setFlags v).cpu.e = s.cpu.e := rfl
@[simp] theorem State.setFlags_cpu_h (s : State) (v : Flags) : (s.setFlags v).cpu.h = s.cpu.h := rfl
@[simp] theorem State.setFlags_cpu_l (s : State) (v : Flags) : (s.setFlags v).cpu.l = s.cpu.l := rfl
@[simp] theorem State.setFlags_cpu_sp (s : State) (v : Flags) : (s.setFlags v).cpu.sp = s.cpu.sp := rfl
@[simp] theorem State.setFlags_cpu_pc (s : State) (v : Flags) : (s.setFlags v).cpu.pc = s.cpu.pc := rfl
@[simp] theorem State.setFlags_cpu_ime (s : State) (v : Flags) : (s.setFlags v).cpu.ime = s.cpu.ime := rfl
@[simp] theorem State.setFlags_cpu_halted (s : State) (v : Flags) : (s.setFlags v).cpu.halted = s.cpu.halted := rfl
@[simp] theorem State.setFlags_cpu_haltBugPending (s : State) (v : Flags) : (s.setFlags v).cpu.haltBugPending = s.cpu.haltBugPending := rfl
@[simp] theorem State.setFlags_irq (s : State) (v : Flags) : (s.setFlags v).irq = s.irq := rfl
@[simp] theorem State.setFlags_timer (s : State) (v : Flags) : (s.setFlags v).timer = s.timer := rfl
@[simp] theorem State.setFlags_joypad (s : State) (v : Flags) : (s.setFlags v).joypad = s.joypad := rfl
@[simp] theorem State.setFlags_serial (s : State) (v : Flags) : (s.setFlags v).serial = s.serial := rfl
@[simp] theorem State.setFlags_oamDma (s : State) (v : Flags) : (s.setFlags v).oamDma = s.oamDma := rfl
@[simp] theorem State.setFlags_vdma (s : State) (v : Flags) : (s.setFlags v).vdma = s.vdma := rfl
@[simp] theorem State.setFlags_ppu (s : State) (v : Flags) : (s.setFlags v).ppu = s.ppu := rfl
@[simp] theorem State.setFlags_vram (s : State) (v : Flags) : (s.setFlags v).vram = s.vram := rfl
@[simp] theorem State.setFlags_oam (s : State) (v : Flags) : (s.setFlags v).oam = s.oam := rfl
@[simp] theorem State.setFlags_wram (s : State) (v : Flags) : (s.setFlags v).wram = s.wram := rfl
@[simp] theorem State.setFlags_hram (s : State) (v : Flags) : (s.setFlags v).hram = s.hram := rfl
@[simp] theorem State.setFlags_bgCram (s : State) (v : Flags) : (s.setFlags v).bgCram = s.bgCram := rfl
@[simp] theorem State.setFlags_objCram (s : State) (v : Flags) : (s.setFlags v).objCram = s.objCram := rfl
@[simp] theorem State.setFlags_frameBuffer (s : State) (v : Flags) : (s.setFlags v).frameBuffer = s.frameBuffer := rfl
@[simp] theorem State.setFlags_bootMapped (s : State) (v : Flags) : (s.setFlags v).bootMapped = s.bootMapped := rfl
@[simp] theorem State.setFlags_svbk (s : State) (v : Flags) : (s.setFlags v).svbk = s.svbk := rfl
@[simp] theorem State.setFlags_doubleSpeed (s : State) (v : Flags) : (s.setFlags v).doubleSpeed = s.doubleSpeed := rfl
@[simp] theorem State.setFlags_key1Armed (s : State) (v : Flags) : (s.setFlags v).key1Armed = s.key1Armed := rfl
@[simp] theorem State.setFlags_mcycles (s : State) (v : Flags) : (s.setFlags v).mcycles = s.mcycles := rfl
@[simp] theorem State.setFlags_params (s : State) (v : Flags) : (s.setFlags v).params = s.params := rfl
@[simp] theorem State.setFlags_cart (s : State) (v : Flags) : (s.setFlags v).cart = s.cart := rfl
@[simp] theorem State.setFlags_bootRom (s : State) (v : Flags) : (s.setFlags v).bootRom = s.bootRom := rfl
@[simp] theorem State.setFlags_buttons (s : State) (v : Flags) : (s.setFlags v).buttons = s.buttons := rfl
@[simp] theorem State.setFlags_inputs (s : State) (v : Flags) : (s.setFlags v).inputs = s.inputs := rfl
@[simp] theorem State.setFlags_trace (s : State) (v : Flags) : (s.setFlags v).trace = s.trace := rfl
@[simp] theorem State.setFlags_serialOut (s : State) (v : Flags) : (s.setFlags v).serialOut = s.serialOut := rfl
@[simp] theorem State.setFlags_framesDone (s : State) (v : Flags) : (s.setFlags v).framesDone = s.framesDone := rfl

/-! ## `setIme` -/

@[simp] theorem State.setIme_cpu_a (s : State) (v : Ime) : (s.setIme v).cpu.a = s.cpu.a := rfl
@[simp] theorem State.setIme_cpu_f (s : State) (v : Ime) : (s.setIme v).cpu.f = s.cpu.f := rfl
@[simp] theorem State.setIme_cpu_b (s : State) (v : Ime) : (s.setIme v).cpu.b = s.cpu.b := rfl
@[simp] theorem State.setIme_cpu_c (s : State) (v : Ime) : (s.setIme v).cpu.c = s.cpu.c := rfl
@[simp] theorem State.setIme_cpu_d (s : State) (v : Ime) : (s.setIme v).cpu.d = s.cpu.d := rfl
@[simp] theorem State.setIme_cpu_e (s : State) (v : Ime) : (s.setIme v).cpu.e = s.cpu.e := rfl
@[simp] theorem State.setIme_cpu_h (s : State) (v : Ime) : (s.setIme v).cpu.h = s.cpu.h := rfl
@[simp] theorem State.setIme_cpu_l (s : State) (v : Ime) : (s.setIme v).cpu.l = s.cpu.l := rfl
@[simp] theorem State.setIme_cpu_sp (s : State) (v : Ime) : (s.setIme v).cpu.sp = s.cpu.sp := rfl
@[simp] theorem State.setIme_cpu_pc (s : State) (v : Ime) : (s.setIme v).cpu.pc = s.cpu.pc := rfl
@[simp] theorem State.setIme_cpu_ime (s : State) (v : Ime) : (s.setIme v).cpu.ime = v := rfl
@[simp] theorem State.setIme_cpu_halted (s : State) (v : Ime) : (s.setIme v).cpu.halted = s.cpu.halted := rfl
@[simp] theorem State.setIme_cpu_haltBugPending (s : State) (v : Ime) : (s.setIme v).cpu.haltBugPending = s.cpu.haltBugPending := rfl
@[simp] theorem State.setIme_irq (s : State) (v : Ime) : (s.setIme v).irq = s.irq := rfl
@[simp] theorem State.setIme_timer (s : State) (v : Ime) : (s.setIme v).timer = s.timer := rfl
@[simp] theorem State.setIme_joypad (s : State) (v : Ime) : (s.setIme v).joypad = s.joypad := rfl
@[simp] theorem State.setIme_serial (s : State) (v : Ime) : (s.setIme v).serial = s.serial := rfl
@[simp] theorem State.setIme_oamDma (s : State) (v : Ime) : (s.setIme v).oamDma = s.oamDma := rfl
@[simp] theorem State.setIme_vdma (s : State) (v : Ime) : (s.setIme v).vdma = s.vdma := rfl
@[simp] theorem State.setIme_ppu (s : State) (v : Ime) : (s.setIme v).ppu = s.ppu := rfl
@[simp] theorem State.setIme_vram (s : State) (v : Ime) : (s.setIme v).vram = s.vram := rfl
@[simp] theorem State.setIme_oam (s : State) (v : Ime) : (s.setIme v).oam = s.oam := rfl
@[simp] theorem State.setIme_wram (s : State) (v : Ime) : (s.setIme v).wram = s.wram := rfl
@[simp] theorem State.setIme_hram (s : State) (v : Ime) : (s.setIme v).hram = s.hram := rfl
@[simp] theorem State.setIme_bgCram (s : State) (v : Ime) : (s.setIme v).bgCram = s.bgCram := rfl
@[simp] theorem State.setIme_objCram (s : State) (v : Ime) : (s.setIme v).objCram = s.objCram := rfl
@[simp] theorem State.setIme_frameBuffer (s : State) (v : Ime) : (s.setIme v).frameBuffer = s.frameBuffer := rfl
@[simp] theorem State.setIme_bootMapped (s : State) (v : Ime) : (s.setIme v).bootMapped = s.bootMapped := rfl
@[simp] theorem State.setIme_svbk (s : State) (v : Ime) : (s.setIme v).svbk = s.svbk := rfl
@[simp] theorem State.setIme_doubleSpeed (s : State) (v : Ime) : (s.setIme v).doubleSpeed = s.doubleSpeed := rfl
@[simp] theorem State.setIme_key1Armed (s : State) (v : Ime) : (s.setIme v).key1Armed = s.key1Armed := rfl
@[simp] theorem State.setIme_mcycles (s : State) (v : Ime) : (s.setIme v).mcycles = s.mcycles := rfl
@[simp] theorem State.setIme_params (s : State) (v : Ime) : (s.setIme v).params = s.params := rfl
@[simp] theorem State.setIme_cart (s : State) (v : Ime) : (s.setIme v).cart = s.cart := rfl
@[simp] theorem State.setIme_bootRom (s : State) (v : Ime) : (s.setIme v).bootRom = s.bootRom := rfl
@[simp] theorem State.setIme_buttons (s : State) (v : Ime) : (s.setIme v).buttons = s.buttons := rfl
@[simp] theorem State.setIme_inputs (s : State) (v : Ime) : (s.setIme v).inputs = s.inputs := rfl
@[simp] theorem State.setIme_trace (s : State) (v : Ime) : (s.setIme v).trace = s.trace := rfl
@[simp] theorem State.setIme_serialOut (s : State) (v : Ime) : (s.setIme v).serialOut = s.serialOut := rfl
@[simp] theorem State.setIme_framesDone (s : State) (v : Ime) : (s.setIme v).framesDone = s.framesDone := rfl

/-! ## `setHalted` -/

@[simp] theorem State.setHalted_cpu_a (s : State) (v : Bool) : (s.setHalted v).cpu.a = s.cpu.a := rfl
@[simp] theorem State.setHalted_cpu_f (s : State) (v : Bool) : (s.setHalted v).cpu.f = s.cpu.f := rfl
@[simp] theorem State.setHalted_cpu_b (s : State) (v : Bool) : (s.setHalted v).cpu.b = s.cpu.b := rfl
@[simp] theorem State.setHalted_cpu_c (s : State) (v : Bool) : (s.setHalted v).cpu.c = s.cpu.c := rfl
@[simp] theorem State.setHalted_cpu_d (s : State) (v : Bool) : (s.setHalted v).cpu.d = s.cpu.d := rfl
@[simp] theorem State.setHalted_cpu_e (s : State) (v : Bool) : (s.setHalted v).cpu.e = s.cpu.e := rfl
@[simp] theorem State.setHalted_cpu_h (s : State) (v : Bool) : (s.setHalted v).cpu.h = s.cpu.h := rfl
@[simp] theorem State.setHalted_cpu_l (s : State) (v : Bool) : (s.setHalted v).cpu.l = s.cpu.l := rfl
@[simp] theorem State.setHalted_cpu_sp (s : State) (v : Bool) : (s.setHalted v).cpu.sp = s.cpu.sp := rfl
@[simp] theorem State.setHalted_cpu_pc (s : State) (v : Bool) : (s.setHalted v).cpu.pc = s.cpu.pc := rfl
@[simp] theorem State.setHalted_cpu_ime (s : State) (v : Bool) : (s.setHalted v).cpu.ime = s.cpu.ime := rfl
@[simp] theorem State.setHalted_cpu_halted (s : State) (v : Bool) : (s.setHalted v).cpu.halted = v := rfl
@[simp] theorem State.setHalted_cpu_haltBugPending (s : State) (v : Bool) : (s.setHalted v).cpu.haltBugPending = s.cpu.haltBugPending := rfl
@[simp] theorem State.setHalted_irq (s : State) (v : Bool) : (s.setHalted v).irq = s.irq := rfl
@[simp] theorem State.setHalted_timer (s : State) (v : Bool) : (s.setHalted v).timer = s.timer := rfl
@[simp] theorem State.setHalted_joypad (s : State) (v : Bool) : (s.setHalted v).joypad = s.joypad := rfl
@[simp] theorem State.setHalted_serial (s : State) (v : Bool) : (s.setHalted v).serial = s.serial := rfl
@[simp] theorem State.setHalted_oamDma (s : State) (v : Bool) : (s.setHalted v).oamDma = s.oamDma := rfl
@[simp] theorem State.setHalted_vdma (s : State) (v : Bool) : (s.setHalted v).vdma = s.vdma := rfl
@[simp] theorem State.setHalted_ppu (s : State) (v : Bool) : (s.setHalted v).ppu = s.ppu := rfl
@[simp] theorem State.setHalted_vram (s : State) (v : Bool) : (s.setHalted v).vram = s.vram := rfl
@[simp] theorem State.setHalted_oam (s : State) (v : Bool) : (s.setHalted v).oam = s.oam := rfl
@[simp] theorem State.setHalted_wram (s : State) (v : Bool) : (s.setHalted v).wram = s.wram := rfl
@[simp] theorem State.setHalted_hram (s : State) (v : Bool) : (s.setHalted v).hram = s.hram := rfl
@[simp] theorem State.setHalted_bgCram (s : State) (v : Bool) : (s.setHalted v).bgCram = s.bgCram := rfl
@[simp] theorem State.setHalted_objCram (s : State) (v : Bool) : (s.setHalted v).objCram = s.objCram := rfl
@[simp] theorem State.setHalted_frameBuffer (s : State) (v : Bool) : (s.setHalted v).frameBuffer = s.frameBuffer := rfl
@[simp] theorem State.setHalted_bootMapped (s : State) (v : Bool) : (s.setHalted v).bootMapped = s.bootMapped := rfl
@[simp] theorem State.setHalted_svbk (s : State) (v : Bool) : (s.setHalted v).svbk = s.svbk := rfl
@[simp] theorem State.setHalted_doubleSpeed (s : State) (v : Bool) : (s.setHalted v).doubleSpeed = s.doubleSpeed := rfl
@[simp] theorem State.setHalted_key1Armed (s : State) (v : Bool) : (s.setHalted v).key1Armed = s.key1Armed := rfl
@[simp] theorem State.setHalted_mcycles (s : State) (v : Bool) : (s.setHalted v).mcycles = s.mcycles := rfl
@[simp] theorem State.setHalted_params (s : State) (v : Bool) : (s.setHalted v).params = s.params := rfl
@[simp] theorem State.setHalted_cart (s : State) (v : Bool) : (s.setHalted v).cart = s.cart := rfl
@[simp] theorem State.setHalted_bootRom (s : State) (v : Bool) : (s.setHalted v).bootRom = s.bootRom := rfl
@[simp] theorem State.setHalted_buttons (s : State) (v : Bool) : (s.setHalted v).buttons = s.buttons := rfl
@[simp] theorem State.setHalted_inputs (s : State) (v : Bool) : (s.setHalted v).inputs = s.inputs := rfl
@[simp] theorem State.setHalted_trace (s : State) (v : Bool) : (s.setHalted v).trace = s.trace := rfl
@[simp] theorem State.setHalted_serialOut (s : State) (v : Bool) : (s.setHalted v).serialOut = s.serialOut := rfl
@[simp] theorem State.setHalted_framesDone (s : State) (v : Bool) : (s.setHalted v).framesDone = s.framesDone := rfl

/-! ## `setHaltBug` -/

@[simp] theorem State.setHaltBug_cpu_a (s : State) (v : Bool) : (s.setHaltBug v).cpu.a = s.cpu.a := rfl
@[simp] theorem State.setHaltBug_cpu_f (s : State) (v : Bool) : (s.setHaltBug v).cpu.f = s.cpu.f := rfl
@[simp] theorem State.setHaltBug_cpu_b (s : State) (v : Bool) : (s.setHaltBug v).cpu.b = s.cpu.b := rfl
@[simp] theorem State.setHaltBug_cpu_c (s : State) (v : Bool) : (s.setHaltBug v).cpu.c = s.cpu.c := rfl
@[simp] theorem State.setHaltBug_cpu_d (s : State) (v : Bool) : (s.setHaltBug v).cpu.d = s.cpu.d := rfl
@[simp] theorem State.setHaltBug_cpu_e (s : State) (v : Bool) : (s.setHaltBug v).cpu.e = s.cpu.e := rfl
@[simp] theorem State.setHaltBug_cpu_h (s : State) (v : Bool) : (s.setHaltBug v).cpu.h = s.cpu.h := rfl
@[simp] theorem State.setHaltBug_cpu_l (s : State) (v : Bool) : (s.setHaltBug v).cpu.l = s.cpu.l := rfl
@[simp] theorem State.setHaltBug_cpu_sp (s : State) (v : Bool) : (s.setHaltBug v).cpu.sp = s.cpu.sp := rfl
@[simp] theorem State.setHaltBug_cpu_pc (s : State) (v : Bool) : (s.setHaltBug v).cpu.pc = s.cpu.pc := rfl
@[simp] theorem State.setHaltBug_cpu_ime (s : State) (v : Bool) : (s.setHaltBug v).cpu.ime = s.cpu.ime := rfl
@[simp] theorem State.setHaltBug_cpu_halted (s : State) (v : Bool) : (s.setHaltBug v).cpu.halted = s.cpu.halted := rfl
@[simp] theorem State.setHaltBug_cpu_haltBugPending (s : State) (v : Bool) : (s.setHaltBug v).cpu.haltBugPending = v := rfl
@[simp] theorem State.setHaltBug_irq (s : State) (v : Bool) : (s.setHaltBug v).irq = s.irq := rfl
@[simp] theorem State.setHaltBug_timer (s : State) (v : Bool) : (s.setHaltBug v).timer = s.timer := rfl
@[simp] theorem State.setHaltBug_joypad (s : State) (v : Bool) : (s.setHaltBug v).joypad = s.joypad := rfl
@[simp] theorem State.setHaltBug_serial (s : State) (v : Bool) : (s.setHaltBug v).serial = s.serial := rfl
@[simp] theorem State.setHaltBug_oamDma (s : State) (v : Bool) : (s.setHaltBug v).oamDma = s.oamDma := rfl
@[simp] theorem State.setHaltBug_vdma (s : State) (v : Bool) : (s.setHaltBug v).vdma = s.vdma := rfl
@[simp] theorem State.setHaltBug_ppu (s : State) (v : Bool) : (s.setHaltBug v).ppu = s.ppu := rfl
@[simp] theorem State.setHaltBug_vram (s : State) (v : Bool) : (s.setHaltBug v).vram = s.vram := rfl
@[simp] theorem State.setHaltBug_oam (s : State) (v : Bool) : (s.setHaltBug v).oam = s.oam := rfl
@[simp] theorem State.setHaltBug_wram (s : State) (v : Bool) : (s.setHaltBug v).wram = s.wram := rfl
@[simp] theorem State.setHaltBug_hram (s : State) (v : Bool) : (s.setHaltBug v).hram = s.hram := rfl
@[simp] theorem State.setHaltBug_bgCram (s : State) (v : Bool) : (s.setHaltBug v).bgCram = s.bgCram := rfl
@[simp] theorem State.setHaltBug_objCram (s : State) (v : Bool) : (s.setHaltBug v).objCram = s.objCram := rfl
@[simp] theorem State.setHaltBug_frameBuffer (s : State) (v : Bool) : (s.setHaltBug v).frameBuffer = s.frameBuffer := rfl
@[simp] theorem State.setHaltBug_bootMapped (s : State) (v : Bool) : (s.setHaltBug v).bootMapped = s.bootMapped := rfl
@[simp] theorem State.setHaltBug_svbk (s : State) (v : Bool) : (s.setHaltBug v).svbk = s.svbk := rfl
@[simp] theorem State.setHaltBug_doubleSpeed (s : State) (v : Bool) : (s.setHaltBug v).doubleSpeed = s.doubleSpeed := rfl
@[simp] theorem State.setHaltBug_key1Armed (s : State) (v : Bool) : (s.setHaltBug v).key1Armed = s.key1Armed := rfl
@[simp] theorem State.setHaltBug_mcycles (s : State) (v : Bool) : (s.setHaltBug v).mcycles = s.mcycles := rfl
@[simp] theorem State.setHaltBug_params (s : State) (v : Bool) : (s.setHaltBug v).params = s.params := rfl
@[simp] theorem State.setHaltBug_cart (s : State) (v : Bool) : (s.setHaltBug v).cart = s.cart := rfl
@[simp] theorem State.setHaltBug_bootRom (s : State) (v : Bool) : (s.setHaltBug v).bootRom = s.bootRom := rfl
@[simp] theorem State.setHaltBug_buttons (s : State) (v : Bool) : (s.setHaltBug v).buttons = s.buttons := rfl
@[simp] theorem State.setHaltBug_inputs (s : State) (v : Bool) : (s.setHaltBug v).inputs = s.inputs := rfl
@[simp] theorem State.setHaltBug_trace (s : State) (v : Bool) : (s.setHaltBug v).trace = s.trace := rfl
@[simp] theorem State.setHaltBug_serialOut (s : State) (v : Bool) : (s.setHaltBug v).serialOut = s.serialOut := rfl
@[simp] theorem State.setHaltBug_framesDone (s : State) (v : Bool) : (s.setHaltBug v).framesDone = s.framesDone := rfl

/-! ## `setHl` -/

@[simp] theorem State.setHl_cpu_a (s : State) (v : Word) : (s.setHl v).cpu.a = s.cpu.a := rfl
@[simp] theorem State.setHl_cpu_f (s : State) (v : Word) : (s.setHl v).cpu.f = s.cpu.f := rfl
@[simp] theorem State.setHl_cpu_b (s : State) (v : Word) : (s.setHl v).cpu.b = s.cpu.b := rfl
@[simp] theorem State.setHl_cpu_c (s : State) (v : Word) : (s.setHl v).cpu.c = s.cpu.c := rfl
@[simp] theorem State.setHl_cpu_d (s : State) (v : Word) : (s.setHl v).cpu.d = s.cpu.d := rfl
@[simp] theorem State.setHl_cpu_e (s : State) (v : Word) : (s.setHl v).cpu.e = s.cpu.e := rfl
@[simp] theorem State.setHl_cpu_h (s : State) (v : Word) : (s.setHl v).cpu.h = hiByte v := rfl
@[simp] theorem State.setHl_cpu_l (s : State) (v : Word) : (s.setHl v).cpu.l = loByte v := rfl
@[simp] theorem State.setHl_cpu_sp (s : State) (v : Word) : (s.setHl v).cpu.sp = s.cpu.sp := rfl
@[simp] theorem State.setHl_cpu_pc (s : State) (v : Word) : (s.setHl v).cpu.pc = s.cpu.pc := rfl
@[simp] theorem State.setHl_cpu_ime (s : State) (v : Word) : (s.setHl v).cpu.ime = s.cpu.ime := rfl
@[simp] theorem State.setHl_cpu_halted (s : State) (v : Word) : (s.setHl v).cpu.halted = s.cpu.halted := rfl
@[simp] theorem State.setHl_cpu_haltBugPending (s : State) (v : Word) : (s.setHl v).cpu.haltBugPending = s.cpu.haltBugPending := rfl
@[simp] theorem State.setHl_irq (s : State) (v : Word) : (s.setHl v).irq = s.irq := rfl
@[simp] theorem State.setHl_timer (s : State) (v : Word) : (s.setHl v).timer = s.timer := rfl
@[simp] theorem State.setHl_joypad (s : State) (v : Word) : (s.setHl v).joypad = s.joypad := rfl
@[simp] theorem State.setHl_serial (s : State) (v : Word) : (s.setHl v).serial = s.serial := rfl
@[simp] theorem State.setHl_oamDma (s : State) (v : Word) : (s.setHl v).oamDma = s.oamDma := rfl
@[simp] theorem State.setHl_vdma (s : State) (v : Word) : (s.setHl v).vdma = s.vdma := rfl
@[simp] theorem State.setHl_ppu (s : State) (v : Word) : (s.setHl v).ppu = s.ppu := rfl
@[simp] theorem State.setHl_vram (s : State) (v : Word) : (s.setHl v).vram = s.vram := rfl
@[simp] theorem State.setHl_oam (s : State) (v : Word) : (s.setHl v).oam = s.oam := rfl
@[simp] theorem State.setHl_wram (s : State) (v : Word) : (s.setHl v).wram = s.wram := rfl
@[simp] theorem State.setHl_hram (s : State) (v : Word) : (s.setHl v).hram = s.hram := rfl
@[simp] theorem State.setHl_bgCram (s : State) (v : Word) : (s.setHl v).bgCram = s.bgCram := rfl
@[simp] theorem State.setHl_objCram (s : State) (v : Word) : (s.setHl v).objCram = s.objCram := rfl
@[simp] theorem State.setHl_frameBuffer (s : State) (v : Word) : (s.setHl v).frameBuffer = s.frameBuffer := rfl
@[simp] theorem State.setHl_bootMapped (s : State) (v : Word) : (s.setHl v).bootMapped = s.bootMapped := rfl
@[simp] theorem State.setHl_svbk (s : State) (v : Word) : (s.setHl v).svbk = s.svbk := rfl
@[simp] theorem State.setHl_doubleSpeed (s : State) (v : Word) : (s.setHl v).doubleSpeed = s.doubleSpeed := rfl
@[simp] theorem State.setHl_key1Armed (s : State) (v : Word) : (s.setHl v).key1Armed = s.key1Armed := rfl
@[simp] theorem State.setHl_mcycles (s : State) (v : Word) : (s.setHl v).mcycles = s.mcycles := rfl
@[simp] theorem State.setHl_params (s : State) (v : Word) : (s.setHl v).params = s.params := rfl
@[simp] theorem State.setHl_cart (s : State) (v : Word) : (s.setHl v).cart = s.cart := rfl
@[simp] theorem State.setHl_bootRom (s : State) (v : Word) : (s.setHl v).bootRom = s.bootRom := rfl
@[simp] theorem State.setHl_buttons (s : State) (v : Word) : (s.setHl v).buttons = s.buttons := rfl
@[simp] theorem State.setHl_inputs (s : State) (v : Word) : (s.setHl v).inputs = s.inputs := rfl
@[simp] theorem State.setHl_trace (s : State) (v : Word) : (s.setHl v).trace = s.trace := rfl
@[simp] theorem State.setHl_serialOut (s : State) (v : Word) : (s.setHl v).serialOut = s.serialOut := rfl
@[simp] theorem State.setHl_framesDone (s : State) (v : Word) : (s.setHl v).framesDone = s.framesDone := rfl

/-! ## `setReg` -/

@[simp] theorem State.setReg_cpu (s : State) (r : Reg) (v : Byte) : (s.setReg r v).cpu = s.cpu.withReg r v := rfl
@[simp] theorem State.setReg_irq (s : State) (r : Reg) (v : Byte) : (s.setReg r v).irq = s.irq := rfl
@[simp] theorem State.setReg_timer (s : State) (r : Reg) (v : Byte) : (s.setReg r v).timer = s.timer := rfl
@[simp] theorem State.setReg_joypad (s : State) (r : Reg) (v : Byte) : (s.setReg r v).joypad = s.joypad := rfl
@[simp] theorem State.setReg_serial (s : State) (r : Reg) (v : Byte) : (s.setReg r v).serial = s.serial := rfl
@[simp] theorem State.setReg_oamDma (s : State) (r : Reg) (v : Byte) : (s.setReg r v).oamDma = s.oamDma := rfl
@[simp] theorem State.setReg_vdma (s : State) (r : Reg) (v : Byte) : (s.setReg r v).vdma = s.vdma := rfl
@[simp] theorem State.setReg_ppu (s : State) (r : Reg) (v : Byte) : (s.setReg r v).ppu = s.ppu := rfl
@[simp] theorem State.setReg_vram (s : State) (r : Reg) (v : Byte) : (s.setReg r v).vram = s.vram := rfl
@[simp] theorem State.setReg_oam (s : State) (r : Reg) (v : Byte) : (s.setReg r v).oam = s.oam := rfl
@[simp] theorem State.setReg_wram (s : State) (r : Reg) (v : Byte) : (s.setReg r v).wram = s.wram := rfl
@[simp] theorem State.setReg_hram (s : State) (r : Reg) (v : Byte) : (s.setReg r v).hram = s.hram := rfl
@[simp] theorem State.setReg_bgCram (s : State) (r : Reg) (v : Byte) : (s.setReg r v).bgCram = s.bgCram := rfl
@[simp] theorem State.setReg_objCram (s : State) (r : Reg) (v : Byte) : (s.setReg r v).objCram = s.objCram := rfl
@[simp] theorem State.setReg_frameBuffer (s : State) (r : Reg) (v : Byte) : (s.setReg r v).frameBuffer = s.frameBuffer := rfl
@[simp] theorem State.setReg_bootMapped (s : State) (r : Reg) (v : Byte) : (s.setReg r v).bootMapped = s.bootMapped := rfl
@[simp] theorem State.setReg_svbk (s : State) (r : Reg) (v : Byte) : (s.setReg r v).svbk = s.svbk := rfl
@[simp] theorem State.setReg_doubleSpeed (s : State) (r : Reg) (v : Byte) : (s.setReg r v).doubleSpeed = s.doubleSpeed := rfl
@[simp] theorem State.setReg_key1Armed (s : State) (r : Reg) (v : Byte) : (s.setReg r v).key1Armed = s.key1Armed := rfl
@[simp] theorem State.setReg_mcycles (s : State) (r : Reg) (v : Byte) : (s.setReg r v).mcycles = s.mcycles := rfl
@[simp] theorem State.setReg_params (s : State) (r : Reg) (v : Byte) : (s.setReg r v).params = s.params := rfl
@[simp] theorem State.setReg_cart (s : State) (r : Reg) (v : Byte) : (s.setReg r v).cart = s.cart := rfl
@[simp] theorem State.setReg_bootRom (s : State) (r : Reg) (v : Byte) : (s.setReg r v).bootRom = s.bootRom := rfl
@[simp] theorem State.setReg_buttons (s : State) (r : Reg) (v : Byte) : (s.setReg r v).buttons = s.buttons := rfl
@[simp] theorem State.setReg_inputs (s : State) (r : Reg) (v : Byte) : (s.setReg r v).inputs = s.inputs := rfl
@[simp] theorem State.setReg_trace (s : State) (r : Reg) (v : Byte) : (s.setReg r v).trace = s.trace := rfl
@[simp] theorem State.setReg_serialOut (s : State) (r : Reg) (v : Byte) : (s.setReg r v).serialOut = s.serialOut := rfl
@[simp] theorem State.setReg_framesDone (s : State) (r : Reg) (v : Byte) : (s.setReg r v).framesDone = s.framesDone := rfl
@[simp] theorem Cpu.withReg_pc (c : Cpu) (r : Reg) (v : Byte) : (c.withReg r v).pc = c.pc := by cases r <;> rfl
@[simp] theorem Cpu.withReg_ime (c : Cpu) (r : Reg) (v : Byte) : (c.withReg r v).ime = c.ime := by cases r <;> rfl
@[simp] theorem Cpu.withReg_halted (c : Cpu) (r : Reg) (v : Byte) : (c.withReg r v).halted = c.halted := by cases r <;> rfl
@[simp] theorem Cpu.withReg_haltBugPending (c : Cpu) (r : Reg) (v : Byte) : (c.withReg r v).haltBugPending = c.haltBugPending := by cases r <;> rfl
@[simp] theorem Cpu.withReg_f (c : Cpu) (r : Reg) (v : Byte) : (c.withReg r v).f = c.f := by cases r <;> rfl
@[simp] theorem Cpu.withReg_sp (c : Cpu) (r : Reg) (v : Byte) : (c.withReg r v).sp = c.sp := by cases r <;> rfl

/-! ## `setPair` -/

@[simp] theorem State.setPair_cpu (s : State) (p : Pair) (v : Word) : (s.setPair p v).cpu = s.cpu.withPair p v := rfl
@[simp] theorem State.setPair_irq (s : State) (p : Pair) (v : Word) : (s.setPair p v).irq = s.irq := rfl
@[simp] theorem State.setPair_timer (s : State) (p : Pair) (v : Word) : (s.setPair p v).timer = s.timer := rfl
@[simp] theorem State.setPair_joypad (s : State) (p : Pair) (v : Word) : (s.setPair p v).joypad = s.joypad := rfl
@[simp] theorem State.setPair_serial (s : State) (p : Pair) (v : Word) : (s.setPair p v).serial = s.serial := rfl
@[simp] theorem State.setPair_oamDma (s : State) (p : Pair) (v : Word) : (s.setPair p v).oamDma = s.oamDma := rfl
@[simp] theorem State.setPair_vdma (s : State) (p : Pair) (v : Word) : (s.setPair p v).vdma = s.vdma := rfl
@[simp] theorem State.setPair_ppu (s : State) (p : Pair) (v : Word) : (s.setPair p v).ppu = s.ppu := rfl
@[simp] theorem State.setPair_vram (s : State) (p : Pair) (v : Word) : (s.setPair p v).vram = s.vram := rfl
@[simp] theorem State.setPair_oam (s : State) (p : Pair) (v : Word) : (s.setPair p v).oam = s.oam := rfl
@[simp] theorem State.setPair_wram (s : State) (p : Pair) (v : Word) : (s.setPair p v).wram = s.wram := rfl
@[simp] theorem State.setPair_hram (s : State) (p : Pair) (v : Word) : (s.setPair p v).hram = s.hram := rfl
@[simp] theorem State.setPair_bgCram (s : State) (p : Pair) (v : Word) : (s.setPair p v).bgCram = s.bgCram := rfl
@[simp] theorem State.setPair_objCram (s : State) (p : Pair) (v : Word) : (s.setPair p v).objCram = s.objCram := rfl
@[simp] theorem State.setPair_frameBuffer (s : State) (p : Pair) (v : Word) : (s.setPair p v).frameBuffer = s.frameBuffer := rfl
@[simp] theorem State.setPair_bootMapped (s : State) (p : Pair) (v : Word) : (s.setPair p v).bootMapped = s.bootMapped := rfl
@[simp] theorem State.setPair_svbk (s : State) (p : Pair) (v : Word) : (s.setPair p v).svbk = s.svbk := rfl
@[simp] theorem State.setPair_doubleSpeed (s : State) (p : Pair) (v : Word) : (s.setPair p v).doubleSpeed = s.doubleSpeed := rfl
@[simp] theorem State.setPair_key1Armed (s : State) (p : Pair) (v : Word) : (s.setPair p v).key1Armed = s.key1Armed := rfl
@[simp] theorem State.setPair_mcycles (s : State) (p : Pair) (v : Word) : (s.setPair p v).mcycles = s.mcycles := rfl
@[simp] theorem State.setPair_params (s : State) (p : Pair) (v : Word) : (s.setPair p v).params = s.params := rfl
@[simp] theorem State.setPair_cart (s : State) (p : Pair) (v : Word) : (s.setPair p v).cart = s.cart := rfl
@[simp] theorem State.setPair_bootRom (s : State) (p : Pair) (v : Word) : (s.setPair p v).bootRom = s.bootRom := rfl
@[simp] theorem State.setPair_buttons (s : State) (p : Pair) (v : Word) : (s.setPair p v).buttons = s.buttons := rfl
@[simp] theorem State.setPair_inputs (s : State) (p : Pair) (v : Word) : (s.setPair p v).inputs = s.inputs := rfl
@[simp] theorem State.setPair_trace (s : State) (p : Pair) (v : Word) : (s.setPair p v).trace = s.trace := rfl
@[simp] theorem State.setPair_serialOut (s : State) (p : Pair) (v : Word) : (s.setPair p v).serialOut = s.serialOut := rfl
@[simp] theorem State.setPair_framesDone (s : State) (p : Pair) (v : Word) : (s.setPair p v).framesDone = s.framesDone := rfl
@[simp] theorem Cpu.withPair_pc (c : Cpu) (p : Pair) (v : Word) : (c.withPair p v).pc = c.pc := by cases p <;> rfl
@[simp] theorem Cpu.withPair_ime (c : Cpu) (p : Pair) (v : Word) : (c.withPair p v).ime = c.ime := by cases p <;> rfl
@[simp] theorem Cpu.withPair_halted (c : Cpu) (p : Pair) (v : Word) : (c.withPair p v).halted = c.halted := by cases p <;> rfl
@[simp] theorem Cpu.withPair_haltBugPending (c : Cpu) (p : Pair) (v : Word) : (c.withPair p v).haltBugPending = c.haltBugPending := by cases p <;> rfl
@[simp] theorem Cpu.withPair_a (c : Cpu) (p : Pair) (v : Word) : (c.withPair p v).a = c.a := by cases p <;> rfl
@[simp] theorem Cpu.withPair_f (c : Cpu) (p : Pair) (v : Word) : (c.withPair p v).f = c.f := by cases p <;> rfl

/-! ## `setStkPair` -/

@[simp] theorem State.setStkPair_cpu (s : State) (p : StkPair) (v : Word) : (s.setStkPair p v).cpu = s.cpu.withStkPair p v := rfl
@[simp] theorem State.setStkPair_irq (s : State) (p : StkPair) (v : Word) : (s.setStkPair p v).irq = s.irq := rfl
@[simp] theorem State.setStkPair_timer (s : State) (p : StkPair) (v : Word) : (s.setStkPair p v).timer = s.timer := rfl
@[simp] theorem State.setStkPair_joypad (s : State) (p : StkPair) (v : Word) : (s.setStkPair p v).joypad = s.joypad := rfl
@[simp] theorem State.setStkPair_serial (s : State) (p : StkPair) (v : Word) : (s.setStkPair p v).serial = s.serial := rfl
@[simp] theorem State.setStkPair_oamDma (s : State) (p : StkPair) (v : Word) : (s.setStkPair p v).oamDma = s.oamDma := rfl
@[simp] theorem State.setStkPair_vdma (s : State) (p : StkPair) (v : Word) : (s.setStkPair p v).vdma = s.vdma := rfl
@[simp] theorem State.setStkPair_ppu (s : State) (p : StkPair) (v : Word) : (s.setStkPair p v).ppu = s.ppu := rfl
@[simp] theorem State.setStkPair_vram (s : State) (p : StkPair) (v : Word) : (s.setStkPair p v).vram = s.vram := rfl
@[simp] theorem State.setStkPair_oam (s : State) (p : StkPair) (v : Word) : (s.setStkPair p v).oam = s.oam := rfl
@[simp] theorem State.setStkPair_wram (s : State) (p : StkPair) (v : Word) : (s.setStkPair p v).wram = s.wram := rfl
@[simp] theorem State.setStkPair_hram (s : State) (p : StkPair) (v : Word) : (s.setStkPair p v).hram = s.hram := rfl
@[simp] theorem State.setStkPair_bgCram (s : State) (p : StkPair) (v : Word) : (s.setStkPair p v).bgCram = s.bgCram := rfl
@[simp] theorem State.setStkPair_objCram (s : State) (p : StkPair) (v : Word) : (s.setStkPair p v).objCram = s.objCram := rfl
@[simp] theorem State.setStkPair_frameBuffer (s : State) (p : StkPair) (v : Word) : (s.setStkPair p v).frameBuffer = s.frameBuffer := rfl
@[simp] theorem State.setStkPair_bootMapped (s : State) (p : StkPair) (v : Word) : (s.setStkPair p v).bootMapped = s.bootMapped := rfl
@[simp] theorem State.setStkPair_svbk (s : State) (p : StkPair) (v : Word) : (s.setStkPair p v).svbk = s.svbk := rfl
@[simp] theorem State.setStkPair_doubleSpeed (s : State) (p : StkPair) (v : Word) : (s.setStkPair p v).doubleSpeed = s.doubleSpeed := rfl
@[simp] theorem State.setStkPair_key1Armed (s : State) (p : StkPair) (v : Word) : (s.setStkPair p v).key1Armed = s.key1Armed := rfl
@[simp] theorem State.setStkPair_mcycles (s : State) (p : StkPair) (v : Word) : (s.setStkPair p v).mcycles = s.mcycles := rfl
@[simp] theorem State.setStkPair_params (s : State) (p : StkPair) (v : Word) : (s.setStkPair p v).params = s.params := rfl
@[simp] theorem State.setStkPair_cart (s : State) (p : StkPair) (v : Word) : (s.setStkPair p v).cart = s.cart := rfl
@[simp] theorem State.setStkPair_bootRom (s : State) (p : StkPair) (v : Word) : (s.setStkPair p v).bootRom = s.bootRom := rfl
@[simp] theorem State.setStkPair_buttons (s : State) (p : StkPair) (v : Word) : (s.setStkPair p v).buttons = s.buttons := rfl
@[simp] theorem State.setStkPair_inputs (s : State) (p : StkPair) (v : Word) : (s.setStkPair p v).inputs = s.inputs := rfl
@[simp] theorem State.setStkPair_trace (s : State) (p : StkPair) (v : Word) : (s.setStkPair p v).trace = s.trace := rfl
@[simp] theorem State.setStkPair_serialOut (s : State) (p : StkPair) (v : Word) : (s.setStkPair p v).serialOut = s.serialOut := rfl
@[simp] theorem State.setStkPair_framesDone (s : State) (p : StkPair) (v : Word) : (s.setStkPair p v).framesDone = s.framesDone := rfl
@[simp] theorem Cpu.withStkPair_pc (c : Cpu) (p : StkPair) (v : Word) : (c.withStkPair p v).pc = c.pc := by cases p <;> rfl
@[simp] theorem Cpu.withStkPair_ime (c : Cpu) (p : StkPair) (v : Word) : (c.withStkPair p v).ime = c.ime := by cases p <;> rfl
@[simp] theorem Cpu.withStkPair_halted (c : Cpu) (p : StkPair) (v : Word) : (c.withStkPair p v).halted = c.halted := by cases p <;> rfl
@[simp] theorem Cpu.withStkPair_haltBugPending (c : Cpu) (p : StkPair) (v : Word) : (c.withStkPair p v).haltBugPending = c.haltBugPending := by cases p <;> rfl
@[simp] theorem Cpu.withStkPair_sp (c : Cpu) (p : StkPair) (v : Word) : (c.withStkPair p v).sp = c.sp := by cases p <;> rfl

/-! ## `log` -/

@[simp] theorem State.log_cpu (s : State) (e : BusEvent) : (s.log e).cpu = s.cpu := rfl
@[simp] theorem State.log_irq (s : State) (e : BusEvent) : (s.log e).irq = s.irq := rfl
@[simp] theorem State.log_timer (s : State) (e : BusEvent) : (s.log e).timer = s.timer := rfl
@[simp] theorem State.log_joypad (s : State) (e : BusEvent) : (s.log e).joypad = s.joypad := rfl
@[simp] theorem State.log_serial (s : State) (e : BusEvent) : (s.log e).serial = s.serial := rfl
@[simp] theorem State.log_oamDma (s : State) (e : BusEvent) : (s.log e).oamDma = s.oamDma := rfl
@[simp] theorem State.log_vdma (s : State) (e : BusEvent) : (s.log e).vdma = s.vdma := rfl
@[simp] theorem State.log_ppu (s : State) (e : BusEvent) : (s.log e).ppu = s.ppu := rfl
@[simp] theorem State.log_vram (s : State) (e : BusEvent) : (s.log e).vram = s.vram := rfl
@[simp] theorem State.log_oam (s : State) (e : BusEvent) : (s.log e).oam = s.oam := rfl
@[simp] theorem State.log_wram (s : State) (e : BusEvent) : (s.log e).wram = s.wram := rfl
@[simp] theorem State.log_hram (s : State) (e : BusEvent) : (s.log e).hram = s.hram := rfl
@[simp] theorem State.log_bgCram (s : State) (e : BusEvent) : (s.log e).bgCram = s.bgCram := rfl
@[simp] theorem State.log_objCram (s : State) (e : BusEvent) : (s.log e).objCram = s.objCram := rfl
@[simp] theorem State.log_frameBuffer (s : State) (e : BusEvent) : (s.log e).frameBuffer = s.frameBuffer := rfl
@[simp] theorem State.log_bootMapped (s : State) (e : BusEvent) : (s.log e).bootMapped = s.bootMapped := rfl
@[simp] theorem State.log_svbk (s : State) (e : BusEvent) : (s.log e).svbk = s.svbk := rfl
@[simp] theorem State.log_doubleSpeed (s : State) (e : BusEvent) : (s.log e).doubleSpeed = s.doubleSpeed := rfl
@[simp] theorem State.log_key1Armed (s : State) (e : BusEvent) : (s.log e).key1Armed = s.key1Armed := rfl
@[simp] theorem State.log_mcycles (s : State) (e : BusEvent) : (s.log e).mcycles = s.mcycles := rfl
@[simp] theorem State.log_params (s : State) (e : BusEvent) : (s.log e).params = s.params := rfl
@[simp] theorem State.log_cart (s : State) (e : BusEvent) : (s.log e).cart = s.cart := rfl
@[simp] theorem State.log_bootRom (s : State) (e : BusEvent) : (s.log e).bootRom = s.bootRom := rfl
@[simp] theorem State.log_buttons (s : State) (e : BusEvent) : (s.log e).buttons = s.buttons := rfl
@[simp] theorem State.log_inputs (s : State) (e : BusEvent) : (s.log e).inputs = s.inputs := rfl
@[simp] theorem State.log_trace (s : State) (e : BusEvent) : (s.log e).trace = e :: s.trace := rfl
@[simp] theorem State.log_serialOut (s : State) (e : BusEvent) : (s.log e).serialOut = s.serialOut := rfl
@[simp] theorem State.log_framesDone (s : State) (e : BusEvent) : (s.log e).framesDone = s.framesDone := rfl

/-! ## Registers, pairs and flags -/

@[simp] theorem Cpu.withReg_reg (c : Cpu) (r : Reg) (v : Byte) : (c.withReg r v).reg r = v := by cases r <;> rfl

theorem Cpu.withReg_reg_of_ne (c : Cpu) (r q : Reg) (v : Byte) (h : q ≠ r) : (c.withReg r v).reg q = c.reg q := by
  cases r <;> cases q <;> first | rfl | exact absurd rfl h

@[simp] theorem wordOf_hi_lo (v : Word) : wordOf (hiByte v) (loByte v) = v := by
  simp only [wordOf, hiByte, loByte]; ext i hi; simp only [BitVec.getElem_append, BitVec.getElem_setWidth, BitVec.getLsbD_ushiftRight]
  split <;> simp_all [BitVec.getLsbD_eq_getElem]

theorem toNat_wordOf (h l : Byte) : (wordOf h l).toNat = 256 * h.toNat + l.toNat := by
  have hl := l.isLt
  show (h ++ l : BitVec (8 + 8)).toNat = _
  rw [BitVec.toNat_append, ← Nat.shiftLeft_add_eq_or_of_lt hl, Nat.shiftLeft_eq]; omega

@[simp] theorem hiByte_wordOf (h l : Byte) : hiByte (wordOf h l) = h := by
  have hh := h.isLt
  have hl := l.isLt
  apply BitVec.eq_of_toNat_eq
  simp only [hiByte, BitVec.toNat_setWidth, BitVec.toNat_ushiftRight, toNat_wordOf, Nat.shiftRight_eq_div_pow]; omega

@[simp] theorem loByte_wordOf (h l : Byte) : loByte (wordOf h l) = l := by
  have hl := l.isLt
  apply BitVec.eq_of_toNat_eq
  simp only [loByte, BitVec.toNat_setWidth, toNat_wordOf]; omega

@[simp] theorem Cpu.withPair_pair (c : Cpu) (p : Pair) (v : Word) : (c.withPair p v).pair p = v := by
  cases p <;> simp [Cpu.withPair, Cpu.pair, Cpu.bc, Cpu.de, Cpu.hl]

@[simp] theorem Flags.ofByte_toByte (f : Flags) : Flags.ofByte f.toByte = f := by
  obtain ⟨z, n, h, c⟩ := f; cases z <;> cases n <;> cases h <;> cases c <;> rfl

/-- The low nibble of `F` reads as zero (R23). -/
theorem Flags.toByte_low (f : Flags) : f.toByte &&& 0x0F = 0 := by
  obtain ⟨z, n, h, c⟩ := f; cases z <;> cases n <;> cases h <;> cases c <;> rfl

end Sys2Proof.Machine
end

