-- ==== Sys2Proof/Laws/Tick.lean ====
section
/-! SUPPORT. What a device tick, a VRAM-DMA stall and each of the three M-cycles leave as it was, said once: the
`_keeps` lemmas for any view `g` of the state, and from them one lemma per field. -/

namespace Sys2Proof.Machine

/-! ## The device tick -/

theorem State.ppuDots_keeps {α : Sort _} (g : State → α) (h : ∀ s : State, g s.ppuDot = g s) (n : Nat) (s : State) :
    g (State.ppuDots n s) = g s := by
  induction n generalizing s with
  | zero => rfl
  | succ n ih => exact (ih s.ppuDot).trans (h s)

/-- A view that each sub-step keeps is kept by the device tick (R110). -/
theorem State.deviceTick_keeps {α : Sort _} (g : State → α) (oam : ∀ s : State, g s.oamDmaStep = g s)
    (timer : ∀ s : State, g s.timerStep = g s) (dot : ∀ s : State, g s.ppuDot = g s)
    (serial : ∀ s : State, g s.serialStep = g s) (joypad : ∀ s : State, g s.joypadStep = g s)
    (settle : ∀ s : State, g s.settle = g s) (s : State) : g s.deviceTick = g s := by
  unfold State.deviceTick
  rw [settle, joypad, serial]
  unfold State.ppuStep
  rw [State.ppuDots_keeps g dot, timer, oam]

/-- What only the CPU and the VRAM-DMA engine change: no device tick touches it. -/
structure Untouched where
  cpu : Cpu
  ie : Byte
  tma : Byte
  tac : BitVec 3
  select : BitVec 2
  fast : Bool
  internal : Bool
  page : Byte
  vdmaMode : VdmaMode
  vdmaSrc : Word
  vdmaDst : Word
  vdmaRemaining : Nat
  hdma1 : Byte
  hdma2 : Byte
  hdma3 : Byte
  hdma4 : Byte
  ppu : PpuRegs
  vram : Memory
  wram : Memory
  hram : Memory
  bgCram : Memory
  objCram : Memory
  bootMapped : Bool
  svbk : BitVec 3
  doubleSpeed : Bool
  key1Armed : Bool
  params : Params
  cart : Cart
  bootRom : Memory
  buttons : Buttons
  inputs : List Buttons
  trace : List BusEvent

/-- That part of a state. -/
def State.untouched (s : State) : Untouched :=
  { cpu := s.cpu, ie := s.irq.ie, tma := s.timer.tma, tac := s.timer.tac, select := s.joypad.select, fast := s.serial.fast,
    internal := s.serial.internal, page := s.oamDma.page, vdmaMode := s.vdma.mode, vdmaSrc := s.vdma.src,
    vdmaDst := s.vdma.dst, vdmaRemaining := s.vdma.remaining, hdma1 := s.vdma.hdma1, hdma2 := s.vdma.hdma2,
    hdma3 := s.vdma.hdma3, hdma4 := s.vdma.hdma4, ppu := s.ppu.regs, vram := s.vram, wram := s.wram, hram := s.hram,
    bgCram := s.bgCram, objCram := s.objCram, bootMapped := s.bootMapped, svbk := s.svbk, doubleSpeed := s.doubleSpeed,
    key1Armed := s.key1Armed, params := s.params, cart := s.cart, bootRom := s.bootRom, buttons := s.buttons,
    inputs := s.inputs, trace := s.trace }

theorem Irq.requestIf_ie (q : Irq) (b : Bool) (i : Nat) : (q.requestIf b i).ie = q.ie := by
  cases b <;> rfl

theorem Timer.edge_tma (t : Timer) (b : Bool) : (t.edge b).tma = t.tma := by
  unfold Timer.edge Timer.increment; split
  · split <;> rfl
  · rfl

theorem Timer.edge_tac (t : Timer) (b : Bool) : (t.edge b).tac = t.tac := by
  unfold Timer.edge Timer.increment; split
  · split <;> rfl
  · rfl

theorem Timer.edge_counter (t : Timer) (b : Bool) : (t.edge b).counter = t.counter := by
  unfold Timer.edge Timer.increment; split
  · split <;> rfl
  · rfl

theorem Timer.step_tma (t : Timer) : t.step.tma = t.tma := by
  unfold Timer.step Timer.advance; rw [Timer.edge_tma]; unfold Timer.reload; split <;> rfl

theorem Timer.step_tac (t : Timer) : t.step.tac = t.tac := by
  unfold Timer.step Timer.advance; rw [Timer.edge_tac]; unfold Timer.reload; split <;> rfl

theorem State.untouched_timerStep (s : State) : s.timerStep.untouched = s.untouched := by
  simp only [State.untouched, State.timerStep, Irq.requestIf_ie, Timer.step_tma, Timer.step_tac]

theorem State.untouched_oamDmaStep (s : State) : s.oamDmaStep.untouched = s.untouched := by
  have : s.oamDma.step.page = s.oamDma.page := by
    unfold OamDma.step; split
    · rfl
    · split <;> rfl
    · rfl
  simp only [State.untouched, State.oamDmaStep, this]

/-- The HBlank trigger changes only the number of blocks due (R453). -/
theorem VramDma.hblankTrigger_eq (d : VramDma) (p : Params) (h : Bool) :
    ∃ n, d.hblankTrigger p h = { d with stallBlocks := n } := by
  unfold VramDma.hblankTrigger; split
  · exact ⟨_, rfl⟩
  · exact ⟨d.stallBlocks, rfl⟩

theorem State.untouched_ppuDot (s : State) : s.ppuDot.untouched = s.untouched := by
  have hp := Ppu.dotStep_regs s.video s.ppu
  obtain ⟨n, hn⟩ := VramDma.hblankTrigger_eq s.vdma s.params s.cpu.halted
  simp only [State.untouched, State.ppuDot, Irq.requestIf_ie, hp, hn]
  split <;> rfl

theorem State.untouched_serialStep (s : State) : s.serialStep.untouched = s.untouched := by
  have h1 : s.serial.step.fast = s.serial.fast := by unfold Serial.step; split <;> rfl
  have h2 : s.serial.step.internal = s.serial.internal := by unfold Serial.step; split <;> rfl
  simp only [State.untouched, State.serialStep, Irq.requestIf_ie, h1, h2]

theorem State.untouched_joypadStep (s : State) : s.joypadStep.untouched = s.untouched := by
  simp only [State.untouched, State.joypadStep, Irq.requestIf_ie, Joypad.step]

theorem State.untouched_settle (s : State) : s.settle.untouched = s.untouched := rfl

/-- A device tick leaves all of this as it was. -/
theorem State.deviceTick_untouched (s : State) : s.deviceTick.untouched = s.untouched :=
  State.deviceTick_keeps State.untouched State.untouched_oamDmaStep State.untouched_timerStep State.untouched_ppuDot
    State.untouched_serialStep State.untouched_joypadStep State.untouched_settle s

@[simp] theorem State.deviceTick_cpu (s : State) : s.deviceTick.cpu = s.cpu :=
  congrArg Untouched.cpu s.deviceTick_untouched
@[simp] theorem State.deviceTick_vram (s : State) : s.deviceTick.vram = s.vram :=
  congrArg Untouched.vram s.deviceTick_untouched
@[simp] theorem State.deviceTick_wram (s : State) : s.deviceTick.wram = s.wram :=
  congrArg Untouched.wram s.deviceTick_untouched
@[simp] theorem State.deviceTick_hram (s : State) : s.deviceTick.hram = s.hram :=
  congrArg Untouched.hram s.deviceTick_untouched
@[simp] theorem State.deviceTick_bgCram (s : State) : s.deviceTick.bgCram = s.bgCram :=
  congrArg Untouched.bgCram s.deviceTick_untouched
@[simp] theorem State.deviceTick_objCram (s : State) : s.deviceTick.objCram = s.objCram :=
  congrArg Untouched.objCram s.deviceTick_untouched
@[simp] theorem State.deviceTick_bootMapped (s : State) : s.deviceTick.bootMapped = s.bootMapped :=
  congrArg Untouched.bootMapped s.deviceTick_untouched
@[simp] theorem State.deviceTick_svbk (s : State) : s.deviceTick.svbk = s.svbk :=
  congrArg Untouched.svbk s.deviceTick_untouched
@[simp] theorem State.deviceTick_doubleSpeed (s : State) : s.deviceTick.doubleSpeed = s.doubleSpeed :=
  congrArg Untouched.doubleSpeed s.deviceTick_untouched
@[simp] theorem State.deviceTick_key1Armed (s : State) : s.deviceTick.key1Armed = s.key1Armed :=
  congrArg Untouched.key1Armed s.deviceTick_untouched
@[simp] theorem State.deviceTick_params (s : State) : s.deviceTick.params = s.params :=
  congrArg Untouched.params s.deviceTick_untouched
@[simp] theorem State.deviceTick_cart (s : State) : s.deviceTick.cart = s.cart :=
  congrArg Untouched.cart s.deviceTick_untouched
@[simp] theorem State.deviceTick_bootRom (s : State) : s.deviceTick.bootRom = s.bootRom :=
  congrArg Untouched.bootRom s.deviceTick_untouched
@[simp] theorem State.deviceTick_buttons (s : State) : s.deviceTick.buttons = s.buttons :=
  congrArg Untouched.buttons s.deviceTick_untouched
@[simp] theorem State.deviceTick_inputs (s : State) : s.deviceTick.inputs = s.inputs :=
  congrArg Untouched.inputs s.deviceTick_untouched
@[simp] theorem State.deviceTick_trace (s : State) : s.deviceTick.trace = s.trace :=
  congrArg Untouched.trace s.deviceTick_untouched
@[simp] theorem State.deviceTick_vdmaMode (s : State) : s.deviceTick.vdma.mode = s.vdma.mode :=
  congrArg Untouched.vdmaMode s.deviceTick_untouched
@[simp] theorem State.deviceTick_vdmaRemaining (s : State) : s.deviceTick.vdma.remaining = s.vdma.remaining :=
  congrArg Untouched.vdmaRemaining s.deviceTick_untouched

/-- Requests are merged at the end of every tick, so none is left (R345). -/
@[simp] theorem State.deviceTick_req (s : State) : s.deviceTick.irq.req = 0 := rfl

@[simp] theorem State.deviceTick_writtenThisCycle (s : State) : s.deviceTick.oamDma.writtenThisCycle = false := rfl

/-- Every tick counts one M-cycle (R42, R110). -/
@[simp] theorem State.deviceTick_mcycles (s : State) : s.deviceTick.mcycles = s.mcycles + 1 := by
  have : ∀ n (t : State), (State.ppuDots n t).mcycles = t.mcycles :=
    State.ppuDots_keeps State.mcycles fun _ => rfl
  show (State.ppuDots _ s.oamDmaStep.timerStep).mcycles + 1 = _
  rw [this]; rfl

/-! ## The VRAM-DMA stall -/

theorem State.vdmaCopyBytes_keeps {α : Sort _} (g : State → α) (h : ∀ s : State, g s.vdmaCopyByte = g s) (n : Nat)
    (s : State) : g (State.vdmaCopyBytes n s) = g s := by
  induction n generalizing s with
  | zero => rfl
  | succ n ih => exact (ih _).trans (h s)

theorem State.vdmaCycles_keeps {α : Sort _} (g : State → α) (h : ∀ s : State, g s.vdmaCopyByte = g s)
    (tick : ∀ s : State, g s.deviceTick = g s) (k n : Nat) (s : State) : g (State.vdmaCycles k n s) = g s := by
  induction n generalizing s with
  | zero => rfl
  | succ n ih => exact (ih _).trans ((tick _).trans (State.vdmaCopyBytes_keeps g h k s))

theorem State.vdmaBlocks_keeps {α : Sort _} (g : State → α) (h : ∀ s : State, g s.vdmaBlock = g s) (n : Nat)
    (s : State) : g (State.vdmaBlocks n s) = g s := by
  induction n generalizing s with
  | zero => rfl
  | succ n ih =>
    unfold State.vdmaBlocks; split
    · rfl
    · exact (ih _).trans (h s)

/-- A view that a byte copy, a tick and the end of a block keep is kept by the stall check (R465, R466). -/
theorem State.stallCheck_keeps {α : Sort _} (g : State → α) (copy : ∀ s : State, g s.vdmaCopyByte = g s)
    (tick : ∀ s : State, g s.deviceTick = g s)
    (done : ∀ s : State, g { s with vdma := s.vdma.blockDone } = g s) (s : State) : g s.stallCheck = g s := by
  unfold State.stallCheck; split
  · exact State.vdmaBlocks_keeps g (fun t => (done _).trans (State.vdmaCycles_keeps g copy tick _ _ t)) _ _
  · rfl

/-- What only the CPU changes: neither a device tick nor a VRAM-DMA stall touches it. -/
def State.own (s : State) : Untouched :=
  { s.untouched with vdmaMode := .idle, vdmaSrc := 0, vdmaDst := 0, vdmaRemaining := 0, vram := [] }

theorem State.deviceTick_own (s : State) : s.deviceTick.own = s.own := by
  unfold State.own; rw [State.deviceTick_untouched]

theorem VramDma.blockDone_hdma (d : VramDma) : d.blockDone.hdma1 = d.hdma1 ∧ d.blockDone.hdma2 = d.hdma2 ∧
    d.blockDone.hdma3 = d.hdma3 ∧ d.blockDone.hdma4 = d.hdma4 := by
  unfold VramDma.blockDone; simp only; split <;> exact ⟨rfl, rfl, rfl, rfl⟩

theorem State.stallCheck_own (s : State) : s.stallCheck.own = s.own := by
  refine State.stallCheck_keeps State.own (fun _ => rfl) State.deviceTick_own (fun t => ?_) s
  obtain ⟨h1, h2, h3, h4⟩ := VramDma.blockDone_hdma t.vdma
  simp only [State.own, State.untouched, h1, h2, h3, h4]

@[simp] theorem State.stallCheck_cpu (s : State) : s.stallCheck.cpu = s.cpu :=
  congrArg Untouched.cpu s.stallCheck_own
@[simp] theorem State.stallCheck_trace (s : State) : s.stallCheck.trace = s.trace :=
  congrArg Untouched.trace s.stallCheck_own
@[simp] theorem State.stallCheck_params (s : State) : s.stallCheck.params = s.params :=
  congrArg Untouched.params s.stallCheck_own

/-- With no block due there is no stall. -/
theorem State.stallCheck_of_zero {s : State} (h : s.vdma.stallBlocks = 0) : s.stallCheck = s := by
  unfold State.stallCheck; split
  · unfold State.vdmaBlocks; simp [h]
  · rfl

/-- On `Dmg` there is no stall (R468). -/
theorem State.stallCheck_of_dmg {s : State} (h : s.params.model = .dmg) : s.stallCheck = s := by
  have : s.isCgb = false := by simp [State.isCgb, Params.isCgb, h]
  simp [State.stallCheck, this]

/-! ## CPU writes -/

/-- A CPU write changes no CPU register. -/
theorem State.ioWrite_cpu (s : State) (r : Nat) (v : Byte) : (s.ioWrite r v).cpu = s.cpu := by
  unfold State.ioWrite
  split <;> try rfl
  all_goals first
    | (unfold State.writeLcdc; simp only; split <;> rfl)
    | (unfold State.cgbWrite; split <;> rfl)

theorem State.ioWrite_trace (s : State) (r : Nat) (v : Byte) : (s.ioWrite r v).trace = s.trace := by
  unfold State.ioWrite
  split <;> try rfl
  all_goals first
    | (unfold State.writeLcdc; simp only; split <;> rfl)
    | (unfold State.cgbWrite; split <;> rfl)

theorem State.ioWrite_params (s : State) (r : Nat) (v : Byte) : (s.ioWrite r v).params = s.params := by
  unfold State.ioWrite
  split <;> try rfl
  all_goals first
    | (unfold State.writeLcdc; simp only; split <;> rfl)
    | (unfold State.cgbWrite; split <;> rfl)

theorem State.ioWrite_mcycles (s : State) (r : Nat) (v : Byte) : (s.ioWrite r v).mcycles = s.mcycles := by
  unfold State.ioWrite
  split <;> try rfl
  all_goals first
    | (unfold State.writeLcdc; simp only; split <;> rfl)
    | (unfold State.cgbWrite; split <;> rfl)

/-- A view that a register write and a store to a memory keep is kept by a CPU write (R94, R96). -/
theorem State.cpuWrite_keeps {α : Sort _} (g : State → α) (target : ∀ (s : State) (v : Byte) (t : Target), g (s.writeTarget v t) = g s)
    (s : State) (a : Word) (v : Byte) : g (s.cpuWrite a v) = g s := by
  unfold State.cpuWrite; split
  · rfl
  · exact target s v (s.target a)

@[simp] theorem State.cpuWrite_cpu (s : State) (a : Word) (v : Byte) : (s.cpuWrite a v).cpu = s.cpu :=
  State.cpuWrite_keeps State.cpu (fun s v t => by cases t <;> first | rfl | exact State.ioWrite_cpu ..) s a v
@[simp] theorem State.cpuWrite_trace (s : State) (a : Word) (v : Byte) : (s.cpuWrite a v).trace = s.trace :=
  State.cpuWrite_keeps State.trace (fun s v t => by cases t <;> first | rfl | exact State.ioWrite_trace ..) s a v
@[simp] theorem State.cpuWrite_params (s : State) (a : Word) (v : Byte) : (s.cpuWrite a v).params = s.params :=
  State.cpuWrite_keeps State.params (fun s v t => by cases t <;> first | rfl | exact State.ioWrite_params ..) s a v
@[simp] theorem State.cpuWrite_mcycles (s : State) (a : Word) (v : Byte) : (s.cpuWrite a v).mcycles = s.mcycles :=
  State.cpuWrite_keeps State.mcycles (fun s v t => by cases t <;> first | rfl | exact State.ioWrite_mcycles ..) s a v

/-! ## The three M-cycles -/

@[simp] theorem State.idle_cpu (s : State) : s.idle.cpu = s.cpu := by simp [State.idle]
@[simp] theorem State.memReadState_cpu (s : State) (a : Word) : (s.memReadState a).cpu = s.cpu := by
  simp [State.memReadState]
@[simp] theorem State.memWrite_cpu (s : State) (a : Word) (v : Byte) : (s.memWrite a v).cpu = s.cpu := by
  simp [State.memWrite]

@[simp] theorem State.idle_params (s : State) : s.idle.params = s.params := by simp [State.idle]
@[simp] theorem State.memReadState_params (s : State) (a : Word) : (s.memReadState a).params = s.params := by
  simp [State.memReadState]
@[simp] theorem State.memWrite_params (s : State) (a : Word) (v : Byte) : (s.memWrite a v).params = s.params := by
  simp [State.memWrite]

/-- Each M-cycle puts one entry on the bus trace (R97). -/
@[simp] theorem State.idle_trace (s : State) : s.idle.trace = .idle :: s.trace := by simp [State.idle]
@[simp] theorem State.memReadState_trace (s : State) (a : Word) :
    (s.memReadState a).trace = .read a (s.memReadValue a) :: s.trace := by simp [State.memReadState]
@[simp] theorem State.memWrite_trace (s : State) (a : Word) (v : Byte) :
    (s.memWrite a v).trace = .write a v :: s.trace := by simp [State.memWrite]

@[simp] theorem State.idle_req (s : State) : s.idle.irq.req = 0 := rfl
@[simp] theorem State.memReadState_req (s : State) (a : Word) : (s.memReadState a).irq.req = 0 := rfl
@[simp] theorem State.memWrite_req (s : State) (a : Word) (v : Byte) : (s.memWrite a v).irq.req = 0 := rfl

theorem State.idles_cpu (n : Nat) (s : State) : (State.idles n s).cpu = s.cpu := by
  induction n generalizing s with
  | zero => rfl
  | succ n ih => simp [State.idles, ih]

end Sys2Proof.Machine
end

