-- ==== Sys2Proof/Laws/Form.lean ====
section
/-! SUPPORT. The shapes of the instruction set: which shared operation each instruction is, and that running the shape
is running the instruction. A law about every instruction is proved by cases on the shape. -/

namespace Sys2Proof.Machine

/-- An address of an 8-bit load or store. -/
inductive Addr where
  | hl
  | bc
  | de
  | abs (nn : Word)
  | high (n : Byte)
  | highC
deriving DecidableEq, Repr

/-- The address in a state. -/
def Addr.at (s : State) : Addr → Word
  | .hl => s.cpu.hl
  | .bc => s.cpu.bc
  | .de => s.cpu.de
  | .abs nn => nn
  | .high n => highPage n
  | .highC => highPage s.cpu.c

/-- A shared operation with its operand fields. -/
inductive Form where
  | nop
  | illegal (op : Byte)
  | setReg (r : Reg) (n : Byte)
  | copyReg (dst r : Reg)
  | loadReg (dst : Reg) (a : Addr)
  | storeReg (r : Reg) (a : Addr)
  | storeImm (n : Byte)
  | loadBump (d : Word)
  | storeBump (d : Word)
  | setPair (p : Pair) (nn : Word)
  | storeSp (nn : Word)
  | spFromHl
  | push (p : StkPair)
  | pop (p : StkPair)
  | leaHl (e : Byte)
  | alu (op : AluOp) (n : Byte)
  | aluReg (op : AluOp) (r : Reg)
  | aluMem (op : AluOp)
  | incReg (r : Reg)
  | decReg (r : Reg)
  | incMem
  | decMem
  | daa
  | cpl
  | scf
  | ccf
  | addHl (p : Pair)
  | incPair (p : Pair)
  | decPair (p : Pair)
  | addSp (e : Byte)
  | rotA (op : RotOp)
  | rotReg (op : RotOp) (r : Reg)
  | rotMem (op : RotOp)
  | testReg (b : Ix) (r : Reg)
  | testMem (b : Ix)
  | resReg (b : Ix) (r : Reg)
  | resMem (b : Ix)
  | setBitReg (b : Ix) (r : Reg)
  | setBitMem (b : Ix)
  | runCb (op2 : Byte)
  | jump (nn : Word)
  | jumpRel (e : Byte)
  | jumpHl
  | jumpIf (cc : Cond) (nn : Word)
  | jumpRelIf (cc : Cond) (e : Byte)
  | call (nn : Word)
  | callIf (cc : Cond) (nn : Word)
  | ret
  | retIf (cc : Cond)
  | rst (y : Ix)
  | reti
  | halt
  | stop
  | di
  | ei
deriving DecidableEq, Repr

/-- Run a shape. -/
def Form.run (s : State) : Form → Result
  | .nop => .next s
  | .illegal op => .fault (.illegalOpcode op)
  | .setReg r n => .next (s.setReg r n)
  | .copyReg dst r => .next (s.copyReg dst r)
  | .loadReg dst a => .next (s.loadReg dst (a.at s))
  | .storeReg r a => .next (s.storeReg r (a.at s))
  | .storeImm n => .next (s.memWrite s.cpu.hl n)
  | .loadBump d => .next ((s.loadReg .a s.cpu.hl).bumpHl d)
  | .storeBump d => .next ((s.storeReg .a s.cpu.hl).bumpHl d)
  | .setPair p nn => .next (s.setPair p nn)
  | .storeSp nn => .next (s.storeSp nn)
  | .spFromHl => .next (s.idle.setSp s.cpu.hl)
  | .push p => .next (s.pushPair p)
  | .pop p => .next (s.popPair p)
  | .leaHl e => .next (s.leaHl e)
  | .alu op n => .next (s.alu op n)
  | .aluReg op r => .next (s.aluReg op r)
  | .aluMem op => .next (s.aluMem op)
  | .incReg r => .next (s.incReg r)
  | .decReg r => .next (s.decReg r)
  | .incMem => .next s.incMem
  | .decMem => .next s.decMem
  | .daa => .next (s.putA (Machine.daa s.cpu.a s.cpu.f))
  | .cpl => .next (s.putA (Machine.cpl s.cpu.a s.cpu.f))
  | .scf => .next (s.setFlags (Machine.scf s.cpu.f))
  | .ccf => .next (s.setFlags (Machine.ccf s.cpu.f))
  | .addHl p => .next (s.addHl p)
  | .incPair p => .next (s.incPair p)
  | .decPair p => .next (s.decPair p)
  | .addSp e => .next (s.addSp e)
  | .rotA op => .next (s.rotA op)
  | .rotReg op r => .next (s.rotReg op r)
  | .rotMem op => .next (s.rotMem op)
  | .testReg b r => .next (s.testReg b r)
  | .testMem b => .next (s.testMem b)
  | .resReg b r => .next (s.resReg b r)
  | .resMem b => .next (s.resMem b)
  | .setBitReg b r => .next (s.setBitReg b r)
  | .setBitMem b => .next (s.setBitMem b)
  | .runCb op2 => .next (s.runCb op2)
  | .jump nn => .next (s.jump nn)
  | .jumpRel e => .next (s.jump (relTarget s.cpu.pc e))
  | .jumpHl => .next (s.setPc s.cpu.hl)
  | .jumpIf cc nn => .next (s.onCond cc (State.jump nn))
  | .jumpRelIf cc e => .next (s.onCond cc (State.jump (relTarget s.cpu.pc e)))
  | .call nn => .next (s.call nn)
  | .callIf cc nn => .next (s.onCond cc (State.call nn))
  | .ret => .next s.ret
  | .retIf cc => .next (s.retCond cc)
  | .rst y => .next (s.rst y)
  | .reti => .next s.returnFromInterrupt
  | .halt => .next s.halt
  | .stop => .next s.stop
  | .di => .next (s.setIme .disabled)
  | .ei => .next s.ei

/-- The shape of an instruction. -/
def Instr.form : Instr → Form
  | .ldBCnn nn => .setPair .bc nn
  | .ldBn n => .setReg .b n
  | .ldMemNnSP nn => .storeSp nn
  | .ldCn n => .setReg .c n
  | .ldDEnn nn => .setPair .de nn
  | .ldDn n => .setReg .d n
  | .jre e => .jumpRel e
  | .ldEn n => .setReg .e n
  | .jrNZe e => .jumpRelIf .nz e
  | .ldHLnn nn => .setPair .hl nn
  | .ldHn n => .setReg .h n
  | .jrZe e => .jumpRelIf .z e
  | .ldLn n => .setReg .l n
  | .jrNCe e => .jumpRelIf .nc e
  | .ldSPnn nn => .setPair .sp nn
  | .ldMemHLn n => .storeImm n
  | .jrCe e => .jumpRelIf .c e
  | .ldAn n => .setReg .a n
  | .jpNZnn nn => .jumpIf .nz nn
  | .jpnn nn => .jump nn
  | .callNZnn nn => .callIf .nz nn
  | .addAn n => .alu .add n
  | .jpZnn nn => .jumpIf .z nn
  | .prefixCB op2 => .runCb op2
  | .callZnn nn => .callIf .z nn
  | .callnn nn => .call nn
  | .adcAn n => .alu .adc n
  | .jpNCnn nn => .jumpIf .nc nn
  | .callNCnn nn => .callIf .nc nn
  | .subn n => .alu .sub n
  | .jpCnn nn => .jumpIf .c nn
  | .callCnn nn => .callIf .c nn
  | .sbcAn n => .alu .sbc n
  | .ldhMemNA n => .storeReg .a (.high n)
  | .andn n => .alu .and n
  | .addSPe e => .addSp e
  | .ldMemNnA nn => .storeReg .a (.abs nn)
  | .xorn n => .alu .xor n
  | .ldhAMemN n => .loadReg .a (.high n)
  | .orn n => .alu .or n
  | .ldHLSPe e => .leaHl e
  | .ldAMemNn nn => .loadReg .a (.abs nn)
  | .cpn n => .alu .cp n
  | .nop => .nop
  | .ldMemBCA => .storeReg .a .bc
  | .incBC => .incPair .bc
  | .incB => .incReg .b
  | .decB => .decReg .b
  | .rlca => .rotA .rlc
  | .addHLBC => .addHl .bc
  | .ldAMemBC => .loadReg .a .bc
  | .decBC => .decPair .bc
  | .incC => .incReg .c
  | .decC => .decReg .c
  | .rrca => .rotA .rrc
  | .stop => .stop
  | .ldMemDEA => .storeReg .a .de
  | .incDE => .incPair .de
  | .incD => .incReg .d
  | .decD => .decReg .d
  | .rla => .rotA .rl
  | .addHLDE => .addHl .de
  | .ldAMemDE => .loadReg .a .de
  | .decDE => .decPair .de
  | .incE => .incReg .e
  | .decE => .decReg .e
  | .rra => .rotA .rr
  | .ldMemHLIncA => .storeBump 1
  | .incHL => .incPair .hl
  | .incH => .incReg .h
  | .decH => .decReg .h
  | .daa => .daa
  | .addHLHL => .addHl .hl
  | .ldAMemHLInc => .loadBump 1
  | .decHL => .decPair .hl
  | .incL => .incReg .l
  | .decL => .decReg .l
  | .cpl => .cpl
  | .ldMemHLDecA => .storeBump (-1)
  | .incSP => .incPair .sp
  | .incMemHL => .incMem
  | .decMemHL => .decMem
  | .scf => .scf
  | .addHLSP => .addHl .sp
  | .ldAMemHLDec => .loadBump (-1)
  | .decSP => .decPair .sp
  | .incA => .incReg .a
  | .decA => .decReg .a
  | .ccf => .ccf
  | .ldBB => .copyReg .b .b
  | .ldBC => .copyReg .b .c
  | .ldBD => .copyReg .b .d
  | .ldBE => .copyReg .b .e
  | .ldBH => .copyReg .b .h
  | .ldBL => .copyReg .b .l
  | .ldBMemHL => .loadReg .b .hl
  | .ldBA => .copyReg .b .a
  | .ldCB => .copyReg .c .b
  | .ldCC => .copyReg .c .c
  | .ldCD => .copyReg .c .d
  | .ldCE => .copyReg .c .e
  | .ldCH => .copyReg .c .h
  | .ldCL => .copyReg .c .l
  | .ldCMemHL => .loadReg .c .hl
  | .ldCA => .copyReg .c .a
  | .ldDB => .copyReg .d .b
  | .ldDC => .copyReg .d .c
  | .ldDD => .copyReg .d .d
  | .ldDE => .copyReg .d .e
  | .ldDH => .copyReg .d .h
  | .ldDL => .copyReg .d .l
  | .ldDMemHL => .loadReg .d .hl
  | .ldDA => .copyReg .d .a
  | .ldEB => .copyReg .e .b
  | .ldEC => .copyReg .e .c
  | .ldED => .copyReg .e .d
  | .ldEE => .copyReg .e .e
  | .ldEH => .copyReg .e .h
  | .ldEL => .copyReg .e .l
  | .ldEMemHL => .loadReg .e .hl
  | .ldEA => .copyReg .e .a
  | .ldHB => .copyReg .h .b
  | .ldHC => .copyReg .h .c
  | .ldHD => .copyReg .h .d
  | .ldHE => .copyReg .h .e
  | .ldHH => .copyReg .h .h
  | .ldHL => .copyReg .h .l
  | .ldHMemHL => .loadReg .h .hl
  | .ldHA => .copyReg .h .a
  | .ldLB => .copyReg .l .b
  | .ldLC => .copyReg .l .c
  | .ldLD => .copyReg .l .d
  | .ldLE => .copyReg .l .e
  | .ldLH => .copyReg .l .h
  | .ldLL => .copyReg .l .l
  | .ldLMemHL => .loadReg .l .hl
  | .ldLA => .copyReg .l .a
  | .ldMemHLB => .storeReg .b .hl
  | .ldMemHLC => .storeReg .c .hl
  | .ldMemHLD => .storeReg .d .hl
  | .ldMemHLE => .storeReg .e .hl
  | .ldMemHLH => .storeReg .h .hl
  | .ldMemHLL => .storeReg .l .hl
  | .halt => .halt
  | .ldMemHLA => .storeReg .a .hl
  | .ldAB => .copyReg .a .b
  | .ldAC => .copyReg .a .c
  | .ldAD => .copyReg .a .d
  | .ldAE => .copyReg .a .e
  | .ldAH => .copyReg .a .h
  | .ldAL => .copyReg .a .l
  | .ldAMemHL => .loadReg .a .hl
  | .ldAA => .copyReg .a .a
  | .addAB => .aluReg .add .b
  | .addAC => .aluReg .add .c
  | .addAD => .aluReg .add .d
  | .addAE => .aluReg .add .e
  | .addAH => .aluReg .add .h
  | .addAL => .aluReg .add .l
  | .addAMemHL => .aluMem .add
  | .addAA => .aluReg .add .a
  | .adcAB => .aluReg .adc .b
  | .adcAC => .aluReg .adc .c
  | .adcAD => .aluReg .adc .d
  | .adcAE => .aluReg .adc .e
  | .adcAH => .aluReg .adc .h
  | .adcAL => .aluReg .adc .l
  | .adcAMemHL => .aluMem .adc
  | .adcAA => .aluReg .adc .a
  | .subB => .aluReg .sub .b
  | .subC => .aluReg .sub .c
  | .subD => .aluReg .sub .d
  | .subE => .aluReg .sub .e
  | .subH => .aluReg .sub .h
  | .subL => .aluReg .sub .l
  | .subMemHL => .aluMem .sub
  | .subA => .aluReg .sub .a
  | .sbcAB => .aluReg .sbc .b
  | .sbcAC => .aluReg .sbc .c
  | .sbcAD => .aluReg .sbc .d
  | .sbcAE => .aluReg .sbc .e
  | .sbcAH => .aluReg .sbc .h
  | .sbcAL => .aluReg .sbc .l
  | .sbcAMemHL => .aluMem .sbc
  | .sbcAA => .aluReg .sbc .a
  | .andB => .aluReg .and .b
  | .andC => .aluReg .and .c
  | .andD => .aluReg .and .d
  | .andE => .aluReg .and .e
  | .andH => .aluReg .and .h
  | .andL => .aluReg .and .l
  | .andMemHL => .aluMem .and
  | .andA => .aluReg .and .a
  | .xorB => .aluReg .xor .b
  | .xorC => .aluReg .xor .c
  | .xorD => .aluReg .xor .d
  | .xorE => .aluReg .xor .e
  | .xorH => .aluReg .xor .h
  | .xorL => .aluReg .xor .l
  | .xorMemHL => .aluMem .xor
  | .xorA => .aluReg .xor .a
  | .orB => .aluReg .or .b
  | .orC => .aluReg .or .c
  | .orD => .aluReg .or .d
  | .orE => .aluReg .or .e
  | .orH => .aluReg .or .h
  | .orL => .aluReg .or .l
  | .orMemHL => .aluMem .or
  | .orA => .aluReg .or .a
  | .cpB => .aluReg .cp .b
  | .cpC => .aluReg .cp .c
  | .cpD => .aluReg .cp .d
  | .cpE => .aluReg .cp .e
  | .cpH => .aluReg .cp .h
  | .cpL => .aluReg .cp .l
  | .cpMemHL => .aluMem .cp
  | .cpA => .aluReg .cp .a
  | .retNZ => .retIf .nz
  | .popBC => .pop .bc
  | .pushBC => .push .bc
  | .rst00 => .rst .i0
  | .retZ => .retIf .z
  | .ret => .ret
  | .rst08 => .rst .i1
  | .retNC => .retIf .nc
  | .popDE => .pop .de
  | .illegalD3 => .illegal 0xD3
  | .pushDE => .push .de
  | .rst10 => .rst .i2
  | .retC => .retIf .c
  | .reti => .reti
  | .illegalDB => .illegal 0xDB
  | .illegalDD => .illegal 0xDD
  | .rst18 => .rst .i3
  | .popHL => .pop .hl
  | .ldhMemCA => .storeReg .a .highC
  | .illegalE3 => .illegal 0xE3
  | .illegalE4 => .illegal 0xE4
  | .pushHL => .push .hl
  | .rst20 => .rst .i4
  | .jpHL => .jumpHl
  | .illegalEB => .illegal 0xEB
  | .illegalEC => .illegal 0xEC
  | .illegalED => .illegal 0xED
  | .rst28 => .rst .i5
  | .popAF => .pop .af
  | .ldhAMemC => .loadReg .a .highC
  | .di => .di
  | .illegalF4 => .illegal 0xF4
  | .pushAF => .push .af
  | .rst30 => .rst .i6
  | .ldSPHL => .spFromHl
  | .ei => .ei
  | .illegalFC => .illegal 0xFC
  | .illegalFD => .illegal 0xFD
  | .rst38 => .rst .i7
  | .rlcB => .rotReg .rlc .b
  | .rlcC => .rotReg .rlc .c
  | .rlcD => .rotReg .rlc .d
  | .rlcE => .rotReg .rlc .e
  | .rlcH => .rotReg .rlc .h
  | .rlcL => .rotReg .rlc .l
  | .rlcMemHL => .rotMem .rlc
  | .rlcA => .rotReg .rlc .a
  | .rrcB => .rotReg .rrc .b
  | .rrcC => .rotReg .rrc .c
  | .rrcD => .rotReg .rrc .d
  | .rrcE => .rotReg .rrc .e
  | .rrcH => .rotReg .rrc .h
  | .rrcL => .rotReg .rrc .l
  | .rrcMemHL => .rotMem .rrc
  | .rrcA => .rotReg .rrc .a
  | .rlB => .rotReg .rl .b
  | .rlC => .rotReg .rl .c
  | .rlD => .rotReg .rl .d
  | .rlE => .rotReg .rl .e
  | .rlH => .rotReg .rl .h
  | .rlL => .rotReg .rl .l
  | .rlMemHL => .rotMem .rl
  | .rlA => .rotReg .rl .a
  | .rrB => .rotReg .rr .b
  | .rrC => .rotReg .rr .c
  | .rrD => .rotReg .rr .d
  | .rrE => .rotReg .rr .e
  | .rrH => .rotReg .rr .h
  | .rrL => .rotReg .rr .l
  | .rrMemHL => .rotMem .rr
  | .rrA => .rotReg .rr .a
  | .slaB => .rotReg .sla .b
  | .slaC => .rotReg .sla .c
  | .slaD => .rotReg .sla .d
  | .slaE => .rotReg .sla .e
  | .slaH => .rotReg .sla .h
  | .slaL => .rotReg .sla .l
  | .slaMemHL => .rotMem .sla
  | .slaA => .rotReg .sla .a
  | .sraB => .rotReg .sra .b
  | .sraC => .rotReg .sra .c
  | .sraD => .rotReg .sra .d
  | .sraE => .rotReg .sra .e
  | .sraH => .rotReg .sra .h
  | .sraL => .rotReg .sra .l
  | .sraMemHL => .rotMem .sra
  | .sraA => .rotReg .sra .a
  | .swapB => .rotReg .swap .b
  | .swapC => .rotReg .swap .c
  | .swapD => .rotReg .swap .d
  | .swapE => .rotReg .swap .e
  | .swapH => .rotReg .swap .h
  | .swapL => .rotReg .swap .l
  | .swapMemHL => .rotMem .swap
  | .swapA => .rotReg .swap .a
  | .srlB => .rotReg .srl .b
  | .srlC => .rotReg .srl .c
  | .srlD => .rotReg .srl .d
  | .srlE => .rotReg .srl .e
  | .srlH => .rotReg .srl .h
  | .srlL => .rotReg .srl .l
  | .srlMemHL => .rotMem .srl
  | .srlA => .rotReg .srl .a
  | .bit0B => .testReg .i0 .b
  | .bit0C => .testReg .i0 .c
  | .bit0D => .testReg .i0 .d
  | .bit0E => .testReg .i0 .e
  | .bit0H => .testReg .i0 .h
  | .bit0L => .testReg .i0 .l
  | .bit0MemHL => .testMem .i0
  | .bit0A => .testReg .i0 .a
  | .bit1B => .testReg .i1 .b
  | .bit1C => .testReg .i1 .c
  | .bit1D => .testReg .i1 .d
  | .bit1E => .testReg .i1 .e
  | .bit1H => .testReg .i1 .h
  | .bit1L => .testReg .i1 .l
  | .bit1MemHL => .testMem .i1
  | .bit1A => .testReg .i1 .a
  | .bit2B => .testReg .i2 .b
  | .bit2C => .testReg .i2 .c
  | .bit2D => .testReg .i2 .d
  | .bit2E => .testReg .i2 .e
  | .bit2H => .testReg .i2 .h
  | .bit2L => .testReg .i2 .l
  | .bit2MemHL => .testMem .i2
  | .bit2A => .testReg .i2 .a
  | .bit3B => .testReg .i3 .b
  | .bit3C => .testReg .i3 .c
  | .bit3D => .testReg .i3 .d
  | .bit3E => .testReg .i3 .e
  | .bit3H => .testReg .i3 .h
  | .bit3L => .testReg .i3 .l
  | .bit3MemHL => .testMem .i3
  | .bit3A => .testReg .i3 .a
  | .bit4B => .testReg .i4 .b
  | .bit4C => .testReg .i4 .c
  | .bit4D => .testReg .i4 .d
  | .bit4E => .testReg .i4 .e
  | .bit4H => .testReg .i4 .h
  | .bit4L => .testReg .i4 .l
  | .bit4MemHL => .testMem .i4
  | .bit4A => .testReg .i4 .a
  | .bit5B => .testReg .i5 .b
  | .bit5C => .testReg .i5 .c
  | .bit5D => .testReg .i5 .d
  | .bit5E => .testReg .i5 .e
  | .bit5H => .testReg .i5 .h
  | .bit5L => .testReg .i5 .l
  | .bit5MemHL => .testMem .i5
  | .bit5A => .testReg .i5 .a
  | .bit6B => .testReg .i6 .b
  | .bit6C => .testReg .i6 .c
  | .bit6D => .testReg .i6 .d
  | .bit6E => .testReg .i6 .e
  | .bit6H => .testReg .i6 .h
  | .bit6L => .testReg .i6 .l
  | .bit6MemHL => .testMem .i6
  | .bit6A => .testReg .i6 .a
  | .bit7B => .testReg .i7 .b
  | .bit7C => .testReg .i7 .c
  | .bit7D => .testReg .i7 .d
  | .bit7E => .testReg .i7 .e
  | .bit7H => .testReg .i7 .h
  | .bit7L => .testReg .i7 .l
  | .bit7MemHL => .testMem .i7
  | .bit7A => .testReg .i7 .a
  | .res0B => .resReg .i0 .b
  | .res0C => .resReg .i0 .c
  | .res0D => .resReg .i0 .d
  | .res0E => .resReg .i0 .e
  | .res0H => .resReg .i0 .h
  | .res0L => .resReg .i0 .l
  | .res0MemHL => .resMem .i0
  | .res0A => .resReg .i0 .a
  | .res1B => .resReg .i1 .b
  | .res1C => .resReg .i1 .c
  | .res1D => .resReg .i1 .d
  | .res1E => .resReg .i1 .e
  | .res1H => .resReg .i1 .h
  | .res1L => .resReg .i1 .l
  | .res1MemHL => .resMem .i1
  | .res1A => .resReg .i1 .a
  | .res2B => .resReg .i2 .b
  | .res2C => .resReg .i2 .c
  | .res2D => .resReg .i2 .d
  | .res2E => .resReg .i2 .e
  | .res2H => .resReg .i2 .h
  | .res2L => .resReg .i2 .l
  | .res2MemHL => .resMem .i2
  | .res2A => .resReg .i2 .a
  | .res3B => .resReg .i3 .b
  | .res3C => .resReg .i3 .c
  | .res3D => .resReg .i3 .d
  | .res3E => .resReg .i3 .e
  | .res3H => .resReg .i3 .h
  | .res3L => .resReg .i3 .l
  | .res3MemHL => .resMem .i3
  | .res3A => .resReg .i3 .a
  | .res4B => .resReg .i4 .b
  | .res4C => .resReg .i4 .c
  | .res4D => .resReg .i4 .d
  | .res4E => .resReg .i4 .e
  | .res4H => .resReg .i4 .h
  | .res4L => .resReg .i4 .l
  | .res4MemHL => .resMem .i4
  | .res4A => .resReg .i4 .a
  | .res5B => .resReg .i5 .b
  | .res5C => .resReg .i5 .c
  | .res5D => .resReg .i5 .d
  | .res5E => .resReg .i5 .e
  | .res5H => .resReg .i5 .h
  | .res5L => .resReg .i5 .l
  | .res5MemHL => .resMem .i5
  | .res5A => .resReg .i5 .a
  | .res6B => .resReg .i6 .b
  | .res6C => .resReg .i6 .c
  | .res6D => .resReg .i6 .d
  | .res6E => .resReg .i6 .e
  | .res6H => .resReg .i6 .h
  | .res6L => .resReg .i6 .l
  | .res6MemHL => .resMem .i6
  | .res6A => .resReg .i6 .a
  | .res7B => .resReg .i7 .b
  | .res7C => .resReg .i7 .c
  | .res7D => .resReg .i7 .d
  | .res7E => .resReg .i7 .e
  | .res7H => .resReg .i7 .h
  | .res7L => .resReg .i7 .l
  | .res7MemHL => .resMem .i7
  | .res7A => .resReg .i7 .a
  | .set0B => .setBitReg .i0 .b
  | .set0C => .setBitReg .i0 .c
  | .set0D => .setBitReg .i0 .d
  | .set0E => .setBitReg .i0 .e
  | .set0H => .setBitReg .i0 .h
  | .set0L => .setBitReg .i0 .l
  | .set0MemHL => .setBitMem .i0
  | .set0A => .setBitReg .i0 .a
  | .set1B => .setBitReg .i1 .b
  | .set1C => .setBitReg .i1 .c
  | .set1D => .setBitReg .i1 .d
  | .set1E => .setBitReg .i1 .e
  | .set1H => .setBitReg .i1 .h
  | .set1L => .setBitReg .i1 .l
  | .set1MemHL => .setBitMem .i1
  | .set1A => .setBitReg .i1 .a
  | .set2B => .setBitReg .i2 .b
  | .set2C => .setBitReg .i2 .c
  | .set2D => .setBitReg .i2 .d
  | .set2E => .setBitReg .i2 .e
  | .set2H => .setBitReg .i2 .h
  | .set2L => .setBitReg .i2 .l
  | .set2MemHL => .setBitMem .i2
  | .set2A => .setBitReg .i2 .a
  | .set3B => .setBitReg .i3 .b
  | .set3C => .setBitReg .i3 .c
  | .set3D => .setBitReg .i3 .d
  | .set3E => .setBitReg .i3 .e
  | .set3H => .setBitReg .i3 .h
  | .set3L => .setBitReg .i3 .l
  | .set3MemHL => .setBitMem .i3
  | .set3A => .setBitReg .i3 .a
  | .set4B => .setBitReg .i4 .b
  | .set4C => .setBitReg .i4 .c
  | .set4D => .setBitReg .i4 .d
  | .set4E => .setBitReg .i4 .e
  | .set4H => .setBitReg .i4 .h
  | .set4L => .setBitReg .i4 .l
  | .set4MemHL => .setBitMem .i4
  | .set4A => .setBitReg .i4 .a
  | .set5B => .setBitReg .i5 .b
  | .set5C => .setBitReg .i5 .c
  | .set5D => .setBitReg .i5 .d
  | .set5E => .setBitReg .i5 .e
  | .set5H => .setBitReg .i5 .h
  | .set5L => .setBitReg .i5 .l
  | .set5MemHL => .setBitMem .i5
  | .set5A => .setBitReg .i5 .a
  | .set6B => .setBitReg .i6 .b
  | .set6C => .setBitReg .i6 .c
  | .set6D => .setBitReg .i6 .d
  | .set6E => .setBitReg .i6 .e
  | .set6H => .setBitReg .i6 .h
  | .set6L => .setBitReg .i6 .l
  | .set6MemHL => .setBitMem .i6
  | .set6A => .setBitReg .i6 .a
  | .set7B => .setBitReg .i7 .b
  | .set7C => .setBitReg .i7 .c
  | .set7D => .setBitReg .i7 .d
  | .set7E => .setBitReg .i7 .e
  | .set7H => .setBitReg .i7 .h
  | .set7L => .setBitReg .i7 .l
  | .set7MemHL => .setBitMem .i7
  | .set7A => .setBitReg .i7 .a

/-- Running an instruction is running its shape. -/
theorem exec_form (i : Instr) (s : State) : exec i s = (Instr.form i).run s := by
  cases i <;> rfl

/-- The shape of a byte of the CB table (R152). -/
def cbForm (op2 : Byte) : Form :=
  let y := op2.extractLsb' 3 3
  match (op2.extractLsb' 6 2).toNat, regOfField (op2.extractLsb' 0 3) with
  | 0, some r => .rotReg (rotOfField y) r
  | 0, none => .rotMem (rotOfField y)
  | 1, some r => .testReg (ixOfField y) r
  | 1, none => .testMem (ixOfField y)
  | 2, some r => .resReg (ixOfField y) r
  | 2, none => .resMem (ixOfField y)
  | _, some r => .setBitReg (ixOfField y) r
  | _, none => .setBitMem (ixOfField y)

/-- `runCb` runs the shape that the fields of `op2` select. -/
theorem runCb_form (op2 : Byte) (s : State) : Form.run s (.runCb op2) = Form.run s (cbForm op2) := by
  show Host.Outcome.next (State.runCb op2 s) = _
  unfold cbForm State.runCb
  generalize (op2.extractLsb' 6 2).toNat = n
  generalize regOfField (op2.extractLsb' 0 3) = o
  match n with
  | 0 => cases o <;> rfl
  | 1 => cases o <;> rfl
  | 2 => cases o <;> rfl
  | _ + 3 => cases o <;> rfl

end Sys2Proof.Machine
end

