-- ==== Sys2Proof/Laws/Step.lean ====
section
/-! SUPPORT. What an instruction and a step can do to the state, said once: they are built from CPU register updates,
the three M-cycles, the speed switch, the clearing of an IF bit and the step's own bookkeeping. A property that each of
these keeps is kept by every instruction and by every step. -/

namespace Sys2Proof.Machine

/-- A property of states that no update of the CPU's registers, no M-cycle and no speed switch can lose. -/
structure Stable (P : State → Prop) : Prop where
  cpu : ∀ (s : State) (c : Cpu), P s → P { s with cpu := c }
  idle : ∀ s : State, P s → P s.idle
  read : ∀ (s : State) (a : Word), P s → P (s.memReadState a)
  write : ∀ (s : State) (a : Word) (v : Byte), P s → P (s.memWrite a v)
  speed : ∀ s : State, s.isCgb = true → P s → P { s with doubleSpeed := !s.doubleSpeed, key1Armed := false }

/-- A stable property that neither the step's bookkeeping nor taking an interrupt can lose. -/
structure StepStable (P : State → Prop) : Prop extends Stable P where
  begin : ∀ s : State, P s → P s.beginStep
  ack : ∀ (s : State) (f : BitVec 5), P s → P { s with irq := { s.irq with flags := f } }

namespace Stable

variable {P : State → Prop} (h : Stable P)
include h

theorem setPc {s : State} (hs : P s) (v : Word) : P (s.setPc v) := h.cpu _ _ hs
theorem setSp {s : State} (hs : P s) (v : Word) : P (s.setSp v) := h.cpu _ _ hs
theorem setA {s : State} (hs : P s) (v : Byte) : P (s.setA v) := h.cpu _ _ hs
theorem setHl {s : State} (hs : P s) (v : Word) : P (s.setHl v) := h.cpu _ _ hs
theorem setFlags {s : State} (hs : P s) (f : Flags) : P (s.setFlags f) := h.cpu _ _ hs
theorem setReg {s : State} (hs : P s) (r : Reg) (v : Byte) : P (s.setReg r v) := h.cpu _ _ hs
theorem setPair {s : State} (hs : P s) (p : Pair) (v : Word) : P (s.setPair p v) := h.cpu _ _ hs
theorem setStkPair {s : State} (hs : P s) (p : StkPair) (v : Word) : P (s.setStkPair p v) := h.cpu _ _ hs
theorem setIme {s : State} (hs : P s) (i : Ime) : P (s.setIme i) := h.cpu _ _ hs
theorem setHalted {s : State} (hs : P s) (b : Bool) : P (s.setHalted b) := h.cpu _ _ hs
theorem setHaltBug {s : State} (hs : P s) (b : Bool) : P (s.setHaltBug b) := h.cpu _ _ hs

theorem fetch8 {s : State} (hs : P s) : P s.fetch8.2 := h.cpu _ _ (h.read _ _ hs)

theorem fetchOpcode {s : State} (hs : P s) : P s.fetchOpcode.2 := by
  unfold State.fetchOpcode; split
  · exact h.cpu _ _ (h.read _ _ hs)
  · exact h.fetch8 hs

theorem push16 {s : State} (hs : P s) (v : Word) : P (s.push16 v) :=
  h.write _ _ _ (h.cpu _ _ (h.write _ _ _ (h.cpu _ _ hs)))

theorem pop16 {s : State} (hs : P s) : P s.pop16.2 := h.cpu _ _ (h.read _ _ (h.cpu _ _ (h.read _ _ hs)))

theorem idles {s : State} (hs : P s) (n : Nat) : P (State.idles n s) := by
  induction n generalizing s with
  | zero => exact hs
  | succ n ih => exact ih (h.idle _ hs)

theorem putA {s : State} (hs : P s) (o : AluOut) : P (State.putA o s) := h.cpu _ _ (h.cpu _ _ hs)

theorem modifyMem {s : State} (hs : P s) (f : Byte → Byte) : P (State.modifyMem f s) := h.write _ _ _ (h.read _ _ hs)

theorem jump {s : State} (hs : P s) (v : Word) : P (State.jump v s) := h.cpu _ _ (h.idle _ hs)

theorem call {s : State} (hs : P s) (v : Word) : P (State.call v s) := h.cpu _ _ (h.push16 (h.idle _ hs) _)

theorem ret {s : State} (hs : P s) : P s.ret := h.idle _ (h.cpu _ _ (h.pop16 hs))

omit h in
theorem onCond {s : State} (hs : P s) (cc : Cond) (f : State → State) (hf : P (f s)) : P (State.onCond cc f s) := by
  unfold State.onCond; split
  · exact hf
  · exact hs

theorem stop {s : State} (hs : P s) : P s.stop := by
  have ht : P s.stopOperand := by
    unfold State.stopOperand; split
    · exact h.fetch8 hs
    · exact hs
  unfold State.stop
  dsimp only
  split
  · next hc =>
    simp only [Bool.and_eq_true] at hc
    exact h.idles (h.speed _ hc.1 ht) _
  · exact ht

theorem halt {s : State} (hs : P s) : P s.halt := by
  unfold State.halt; split
  · exact h.cpu _ _ hs
  · exact h.cpu _ _ hs

theorem ei {s : State} (hs : P s) : P s.ei := by
  unfold State.ei; split
  · exact h.cpu _ _ hs
  · exact hs

theorem runCb {s : State} (hs : P s) (op2 : Byte) : P (State.runCb op2 s) := by
  unfold State.runCb
  dsimp only
  split
  · exact h.cpu _ _ (h.cpu _ _ hs)
  · exact h.cpu _ _ (h.modifyMem hs _)
  · exact h.cpu _ _ hs
  · exact h.cpu _ _ (h.read _ _ hs)
  · exact h.cpu _ _ hs
  · exact h.modifyMem hs _
  · exact h.cpu _ _ hs
  · exact h.modifyMem hs _

/-- Every instruction keeps a stable property. -/
theorem form {s t : State} (i : Form) (hs : P s) (e : i.run s = .next t) : P t := by
  have get : ∀ {u : State}, Host.Outcome.next u = i.run s → P u → P t := fun eq hu => by
    rw [e] at eq; cases eq; exact hu
  cases i with
  | nop => exact get rfl hs
  | illegal op => exact nomatch e
  | setReg r n => exact get rfl (h.setReg hs _ _)
  | copyReg dst r => exact get rfl (h.setReg hs _ _)
  | loadReg dst a => exact get rfl (h.setReg (h.read _ _ hs) _ _)
  | storeReg r a => exact get rfl (h.write _ _ _ hs)
  | storeImm n => exact get rfl (h.write _ _ _ hs)
  | loadBump k => exact get rfl (h.setHl (h.setReg (h.read _ _ hs) _ _) _)
  | storeBump k => exact get rfl (h.setHl (h.write _ _ _ hs) _)
  | setPair p nn => exact get rfl (h.setPair hs _ _)
  | storeSp nn => exact get rfl (h.write _ _ _ (h.write _ _ _ hs))
  | spFromHl => exact get rfl (h.setSp (h.idle _ hs) _)
  | push p => exact get rfl (h.push16 (h.idle _ hs) _)
  | pop p => exact get rfl (h.setStkPair (h.pop16 hs) _ _)
  | leaHl e => exact get rfl (h.setFlags (h.setHl (h.idle _ hs) _) _)
  | alu op n => exact get rfl (h.putA hs _)
  | aluReg op r => exact get rfl (h.putA hs _)
  | aluMem op => exact get rfl (h.putA (h.read _ _ hs) _)
  | incReg r => exact get rfl (h.setFlags (h.setReg hs _ _) _)
  | decReg r => exact get rfl (h.setFlags (h.setReg hs _ _) _)
  | incMem => exact get rfl (h.setFlags (h.write _ _ _ (h.read _ _ hs)) _)
  | decMem => exact get rfl (h.setFlags (h.write _ _ _ (h.read _ _ hs)) _)
  | daa => exact get rfl (h.putA hs _)
  | cpl => exact get rfl (h.putA hs _)
  | scf => exact get rfl (h.setFlags hs _)
  | ccf => exact get rfl (h.setFlags hs _)
  | addHl p => exact get rfl (h.setFlags (h.setHl (h.idle _ hs) _) _)
  | incPair p => exact get rfl (h.setPair (h.idle _ hs) _ _)
  | decPair p => exact get rfl (h.setPair (h.idle _ hs) _ _)
  | addSp e => exact get rfl (h.setFlags (h.setSp (h.idle _ (h.idle _ hs)) _) _)
  | rotA op => exact get rfl (h.setFlags (h.setA hs _) _)
  | rotReg op r => exact get rfl (h.setFlags (h.setReg hs _ _) _)
  | rotMem op => exact get rfl (h.setFlags (h.modifyMem hs _) _)
  | testReg b r => exact get rfl (h.setFlags hs _)
  | testMem b => exact get rfl (h.setFlags (h.read _ _ hs) _)
  | resReg b r => exact get rfl (h.setReg hs _ _)
  | resMem b => exact get rfl (h.modifyMem hs _)
  | setBitReg b r => exact get rfl (h.setReg hs _ _)
  | setBitMem b => exact get rfl (h.modifyMem hs _)
  | runCb op2 => exact get rfl (h.runCb hs _)
  | jump nn => exact get rfl (h.jump hs _)
  | jumpRel e => exact get rfl (h.jump hs _)
  | jumpHl => exact get rfl (h.setPc hs _)
  | jumpIf cc nn => exact get rfl (onCond hs _ _ (h.jump hs _))
  | jumpRelIf cc e => exact get rfl (onCond hs _ _ (h.jump hs _))
  | call nn => exact get rfl (h.call hs _)
  | callIf cc nn => exact get rfl (onCond hs _ _ (h.call hs _))
  | ret => exact get rfl (h.ret hs)
  | retIf cc => exact get rfl (onCond (h.idle _ hs) _ _ (h.ret (h.idle _ hs)))
  | rst y => exact get rfl (h.call hs _)
  | reti => exact get rfl (h.setIme (h.idle _ (h.setPc (h.pop16 hs) _)) _)
  | halt => exact get rfl (h.halt hs)
  | stop => exact get rfl (h.stop hs)
  | di => exact get rfl (h.setIme hs _)
  | ei => exact get rfl (h.ei hs)

theorem exec {s t : State} (i : Instr) (hs : P s) (e : Machine.exec i s = .next t) : P t :=
  h.form (Instr.form i) hs (exec_form i s ▸ e)

theorem fetchInstr {s : State} (hs : P s) : P s.fetchInstr.2 := by
  unfold State.fetchInstr
  dsimp only
  split
  · exact h.fetchOpcode hs
  · exact h.fetch8 (h.fetchOpcode hs)
  · exact h.fetch8 (h.fetch8 (h.fetchOpcode hs))

theorem promoteIme {s : State} (hs : P s) (b : Bool) : P (s.promoteIme b) := by
  unfold State.promoteIme; split
  · exact h.cpu _ _ hs
  · exact hs

end Stable

namespace StepStable

variable {P : State → Prop} (h : StepStable P)
include h

theorem takeInterrupt {s t : State} (hs : P s) (e : s.takeInterrupt = .next t) : P t := by
  have hd : P s.dispatchCycles := h.push16 (h.toStable.idle _ (h.toStable.idle _ hs)) _
  have he (u : State) (hu : P u) (i : Nat) : P (u.enterHandler i) := h.setIme (h.setPc (h.ack _ _ hu) _) _
  unfold State.takeInterrupt at e
  generalize s.dispatchCycles = u at hd e
  dsimp only at e
  split at e
  · exact nomatch e
  · exact Host.Outcome.next.inj e ▸ he u hd _

theorem endStep {s t : State} (hs : P s) (e : s.endStep = .next t) : P t := by
  unfold State.endStep at e
  split at e
  · cases e; exact hs
  · split at e
    · exact h.takeInterrupt (h.setHalted hs _) e
    · cases e; exact h.setHalted hs _

/-- Every step keeps a step-stable property. -/
theorem step {s t : State} (hs : P s) (e : Machine.step s = .next t) : P t := by
  have hb := h.begin _ hs
  unfold Machine.step cpuStep at e
  dsimp only at e
  split at e
  · exact h.endStep (h.toStable.idle _ hb) e
  · split at e
    · next u hu => exact h.endStep (h.promoteIme (h.toStable.exec _ (h.fetchInstr hb) hu) _) e
    · exact nomatch e
    · exact nomatch e

theorem afterEnd {s : State} (hs : P s) : P s.afterEnd := by
  unfold State.afterEnd
  split
  · next t e => exact h.endStep hs e
  · exact h.push16 (h.toStable.idle _ (h.toStable.idle _ (h.setHalted hs _))) _
  · exact hs

/-- Where a step leaves the block has what every step keeps, also after a fault. -/
theorem afterStep {s : State} (hs : P s) : P s.afterStep := by
  have hb := h.begin _ hs
  unfold State.afterStep
  dsimp only
  split
  · exact h.afterEnd (h.toStable.idle _ hb)
  · split
    · next u hu => exact h.afterEnd (h.promoteIme (h.toStable.exec _ (h.fetchInstr hb) hu) _)
    · exact h.fetchInstr hb
    · exact h.fetchInstr hb

end StepStable

/-- A step that goes on leaves the block in its next state. -/
theorem State.afterStep_of_next {s t : State} (e : step s = .next t) : s.afterStep = t := by
  have ended {u : State} (e : u.endStep = .next t) : u.afterEnd = t := by simp only [State.afterEnd, e]
  unfold step cpuStep at e
  unfold State.afterStep
  dsimp only at e ⊢
  by_cases h : s.beginStep.cpu.halted = true
  · rw [if_pos h] at e ⊢
    exact ended e
  · rw [if_neg h] at e ⊢
    cases hu : exec s.beginStep.fetchInstr.1 s.beginStep.fetchInstr.2 with
    | next u => rw [hu] at e; exact ended e
    | fault r => rw [hu] at e; exact nomatch e
    | refused r => rw [hu] at e; exact nomatch e

end Sys2Proof.Machine
end

