-- ==== Sys2Proof/Laws/Canonical.lean ====
section
/-! SUPPORT. Every operation over the memories keeps their canonical form (log entry 7): a store, a CPU write, an
OAM-DMA copy, a pixel, a VRAM-DMA copy, each M-cycle. So every instruction and every step keeps it. -/

namespace Sys2Proof.Machine

/-- Every memory of R30 is in canonical form. -/
structure State.Canonical (s : State) : Prop where
  vram : s.vram.wf = true
  oam : s.oam.wf = true
  wram : s.wram.wf = true
  hram : s.hram.wf = true
  bgCram : s.bgCram.wf = true
  objCram : s.objCram.wf = true
  frameBuffer : Sparse.wf s.frameBuffer = true

/-- Memories written out from a list of bytes are in canonical form. -/
theorem Memory.wfAbove_ofBytes (k b : Nat) (h : b < k) (bs : List Byte) :
    Sparse.wfAbove b (Memory.ofBytes k bs) = true := by
  induction bs generalizing k b with
  | nil => rfl
  | cons v vs ih => exact Sparse.wfAbove_consNonzero h (ih (k + 1) k (Nat.lt_succ_self k))

/-- The memories at reset are in canonical form. -/
theorem State.reset_canonical : State.reset.Canonical := by constructor <;> rfl

theorem putPixel_wf {fb : Sparse 32} (h : Sparse.wf fb = true) (o : Option (Nat × Pixel)) :
    Sparse.wf (putPixel fb o) = true := by
  unfold putPixel; split
  · exact h
  · exact Sparse.wf_write h _ _

theorem State.canonical_writeLcdc {s : State} (h : s.Canonical) (v : Byte) : (s.writeLcdc v).Canonical := by
  unfold State.writeLcdc
  dsimp only
  split
  · exact ⟨h.1, h.2, h.3, h.4, h.5, h.6, h.7⟩
  · exact ⟨h.1, h.2, h.3, h.4, h.5, h.6, h.7⟩

theorem State.canonical_cgbWrite {s t : State} (h : s.Canonical) (ht : t.Canonical) : (s.cgbWrite t).Canonical := by
  unfold State.cgbWrite; split
  · exact ht
  · exact h

/-- A write to an I/O register keeps the canonical form. -/
theorem State.canonical_ioWrite {s : State} (h : s.Canonical) (r : Nat) (v : Byte) : (s.ioWrite r v).Canonical := by
  unfold State.ioWrite
  split
  all_goals first
    | exact h
    | exact ⟨h.1, h.2, h.3, h.4, h.5, h.6, h.7⟩
    | exact State.canonical_writeLcdc h v
    | exact State.canonical_cgbWrite h ⟨h.1, h.2, h.3, h.4, h.5, h.6, h.7⟩
    | exact State.canonical_cgbWrite h ⟨h.1, h.2, h.3, h.4, Memory.wf_write h.5 _ _, h.6, h.7⟩
    | exact State.canonical_cgbWrite h ⟨h.1, h.2, h.3, h.4, h.5, Memory.wf_write h.6 _ _, h.7⟩

/-- A write to a target keeps the canonical form. -/
theorem State.canonical_writeTarget {s : State} (h : s.Canonical) (v : Byte) (t : Target) :
    (s.writeTarget v t).Canonical := by
  cases t with
  | vram k => exact ⟨Memory.wf_write h.1 _ _, h.2, h.3, h.4, h.5, h.6, h.7⟩
  | oam k => exact ⟨h.1, Memory.wf_write h.2 _ _, h.3, h.4, h.5, h.6, h.7⟩
  | wram k => exact ⟨h.1, h.2, Memory.wf_write h.3 _ _, h.4, h.5, h.6, h.7⟩
  | hram k => exact ⟨h.1, h.2, h.3, Memory.wf_write h.4 _ _, h.5, h.6, h.7⟩
  | io r => exact State.canonical_ioWrite h r v
  | ie => exact ⟨h.1, h.2, h.3, h.4, h.5, h.6, h.7⟩
  | boot o => exact h
  | cart a => exact h
  | unusable a => exact h

/-- `RawWrite` keeps the canonical form. -/
theorem State.canonical_rawWrite {s : State} (h : s.Canonical) (a : Word) (v : Byte) : (s.rawWrite a v).Canonical :=
  State.canonical_writeTarget h v _

/-- `CpuWrite` keeps the canonical form. -/
theorem State.canonical_cpuWrite {s : State} (h : s.Canonical) (a : Word) (v : Byte) : (s.cpuWrite a v).Canonical := by
  unfold State.cpuWrite; split
  · exact h
  · exact State.canonical_rawWrite h a v

theorem State.canonical_oamDmaStep {s : State} (h : s.Canonical) : s.oamDmaStep.Canonical := by
  refine ⟨h.1, ?_, h.3, h.4, h.5, h.6, h.7⟩
  show Memory.wf (if _ then _ else _) = true
  split
  · exact Memory.wf_write h.2 _ _
  · exact h.2

theorem State.canonical_ppuDot {s : State} (h : s.Canonical) : s.ppuDot.Canonical :=
  ⟨h.1, h.2, h.3, h.4, h.5, h.6, putPixel_wf h.7 _⟩

theorem State.canonical_ppuDots (n : Nat) {s : State} (h : s.Canonical) : (State.ppuDots n s).Canonical := by
  induction n generalizing s with
  | zero => exact h
  | succ n ih => exact ih (State.canonical_ppuDot h)

/-- A device tick keeps the canonical form. -/
theorem State.canonical_deviceTick {s : State} (h : s.Canonical) : s.deviceTick.Canonical := by
  have h1 := State.canonical_oamDmaStep h
  have h2 : s.oamDmaStep.timerStep.Canonical := ⟨h1.1, h1.2, h1.3, h1.4, h1.5, h1.6, h1.7⟩
  have h3 : s.oamDmaStep.timerStep.ppuStep.Canonical := State.canonical_ppuDots _ h2
  exact ⟨h3.1, h3.2, h3.3, h3.4, h3.5, h3.6, h3.7⟩

theorem State.canonical_vdmaCopyByte {s : State} (h : s.Canonical) : s.vdmaCopyByte.Canonical :=
  ⟨Memory.wf_write h.1 _ _, h.2, h.3, h.4, h.5, h.6, h.7⟩

theorem State.canonical_vdmaCopyBytes (n : Nat) {s : State} (h : s.Canonical) : (State.vdmaCopyBytes n s).Canonical := by
  induction n generalizing s with
  | zero => exact h
  | succ n ih => exact ih (State.canonical_vdmaCopyByte h)

theorem State.canonical_vdmaCycles (k n : Nat) {s : State} (h : s.Canonical) : (State.vdmaCycles k n s).Canonical := by
  induction n generalizing s with
  | zero => exact h
  | succ n ih => exact ih (State.canonical_deviceTick (State.canonical_vdmaCopyBytes k h))

theorem State.canonical_vdmaBlocks (n : Nat) {s : State} (h : s.Canonical) : (State.vdmaBlocks n s).Canonical := by
  induction n generalizing s with
  | zero => exact h
  | succ n ih =>
    unfold State.vdmaBlocks; split
    · exact h
    · refine ih ?_
      have hc := State.canonical_vdmaCycles (Config.gdmaBytesPerCycle s.doubleSpeed)
        (Config.gdmaMcyclesPerBlock s.doubleSpeed) h
      exact ⟨hc.1, hc.2, hc.3, hc.4, hc.5, hc.6, hc.7⟩

/-- A VRAM-DMA stall keeps the canonical form. -/
theorem State.canonical_stallCheck {s : State} (h : s.Canonical) : s.stallCheck.Canonical := by
  unfold State.stallCheck; split
  · exact State.canonical_vdmaBlocks _ h
  · exact h

theorem State.canonical_log {s : State} (h : s.Canonical) (e : BusEvent) : (s.log e).Canonical :=
  ⟨h.1, h.2, h.3, h.4, h.5, h.6, h.7⟩

/-- Every M-cycle and every update outside the memories keeps the canonical form. -/
theorem State.canonical_stepStable : StepStable State.Canonical where
  cpu _ _ h := ⟨h.1, h.2, h.3, h.4, h.5, h.6, h.7⟩
  idle _ h := State.canonical_deviceTick (State.canonical_log (State.canonical_stallCheck h) _)
  read _ _ h := State.canonical_deviceTick (State.canonical_log (State.canonical_stallCheck h) _)
  write _ a v h :=
    State.canonical_deviceTick (State.canonical_log (State.canonical_cpuWrite (State.canonical_stallCheck h) a v) _)
  speed _ _ h := ⟨h.1, h.2, h.3, h.4, h.5, h.6, h.7⟩
  begin s h := by
    unfold State.beginStep; split
    · exact ⟨h.1, h.2, h.3, h.4, h.5, h.6, h.7⟩
    · exact ⟨h.1, h.2, h.3, h.4, h.5, h.6, h.7⟩
  ack _ _ h := ⟨h.1, h.2, h.3, h.4, h.5, h.6, h.7⟩

/-- Every instruction keeps the memories in canonical form. -/
theorem exec_canonical {s t : State} (i : Instr) (h : s.Canonical) (e : exec i s = .next t) : t.Canonical :=
  State.canonical_stepStable.exec i h e

/-- Every step keeps the memories in canonical form. -/
theorem step_canonical {s t : State} (h : s.Canonical) (e : step s = .next t) : t.Canonical :=
  State.canonical_stepStable.step h e

/-- Placing a byte keeps the canonical form. -/
theorem State.canonical_placeByte {s : State} (h : s.Canonical) (a : Word) (v : Byte) : (s.placeByte a v).Canonical := by
  unfold State.placeByte
  split
  · exact ⟨h.1, h.2, h.3, h.4, h.5, h.6, h.7⟩
  · split
    · split
      · exact ⟨h.1, h.2, h.3, h.4, h.5, h.6, h.7⟩
      · exact h
    · exact h
  · exact h
  · exact h
  · exact State.canonical_writeTarget h v _

end Sys2Proof.Machine
end

