-- ==== Sys2Proof/Laws/HostOps.lean ====
section
/-! SUPPORT. What a launch and `reset()` take from their arguments, one lemma per field (70_reset_and_hazards.md R580 to
R583, R600). -/

namespace Sys2Proof.Machine

/-! ## The two forms -/

@[simp] theorem State.powerOn_params (k : Launch) : (State.powerOn k).params = { k.params with resetForm := .powerOn } := rfl
@[simp] theorem State.powerOn_cart (k : Launch) : (State.powerOn k).cart = k.cart := rfl
@[simp] theorem State.powerOn_bootRom (k : Launch) : (State.powerOn k).bootRom = k.bootRom := rfl
@[simp] theorem State.powerOn_buttons (k : Launch) : (State.powerOn k).buttons = k.buttons := rfl
@[simp] theorem State.powerOn_inputs (k : Launch) : (State.powerOn k).inputs = k.inputs := rfl

@[simp] theorem State.postBoot_params (k : Launch) (x : PostBootArgs) :
    (State.postBoot k x).params = { k.params with resetForm := .postBoot } := rfl
@[simp] theorem State.postBoot_cart (k : Launch) (x : PostBootArgs) : (State.postBoot k x).cart = k.cart := rfl
@[simp] theorem State.postBoot_bootRom (k : Launch) (x : PostBootArgs) : (State.postBoot k x).bootRom = k.bootRom := rfl
@[simp] theorem State.postBoot_buttons (k : Launch) (x : PostBootArgs) : (State.postBoot k x).buttons = k.buttons := rfl
@[simp] theorem State.postBoot_inputs (k : Launch) (x : PostBootArgs) : (State.postBoot k x).inputs = k.inputs := rfl

/-- The post-boot form sets the PPU's enabling registers and the caller's place; its other state is as power-on. -/
@[simp] theorem State.postBoot_ppu (k : Launch) (x : PostBootArgs) :
    (State.postBoot k x).ppu = Ppu.powerOn.postBoot x := rfl

/-! ## The launch -/

theorem State.load_of_powerOn {k : Launch} (h : k.params.resetForm = .powerOn) (x : PostBootArgs) :
    State.load k x = State.powerOn k := by simp only [State.load, h]

theorem State.load_of_postBoot {k : Launch} (h : k.params.resetForm = .postBoot) (x : PostBootArgs) :
    State.load k x = State.postBoot k x := by simp only [State.load, h]

/-- A launch has the arguments it was given, the form of reset among them. -/
@[simp] theorem State.load_params (k : Launch) (x : PostBootArgs) : (State.load k x).params = k.params := by
  cases h : k.params.resetForm with
  | powerOn => rw [State.load_of_powerOn h, State.powerOn_params, ← h]
  | postBoot => rw [State.load_of_postBoot h, State.postBoot_params, ← h]

/-! ## `reset()` -/

@[simp] theorem State.relaunch_params (s : State) (k : Launch) : (s.relaunch k).params = s.params := rfl
@[simp] theorem State.relaunch_cart (s : State) (k : Launch) : (s.relaunch k).cart = s.cart := rfl
@[simp] theorem State.relaunch_bootRom (s : State) (k : Launch) : (s.relaunch k).bootRom = s.bootRom := rfl
@[simp] theorem State.relaunch_buttons (s : State) (k : Launch) : (s.relaunch k).buttons = s.buttons := rfl
@[simp] theorem State.relaunch_inputs (s : State) (k : Launch) : (s.relaunch k).inputs = s.inputs := rfl
@[simp] theorem State.hostReset_serialOut (s : State) (k : Launch) (x : PostBootArgs) :
    (s.hostReset k x).serialOut = s.serialOut := rfl

/-! ## A frame -/

/-- With the LCD on, only a `frame_done` event ends a frame (R602, C12). -/
theorem State.frameEnds_of_lcdOn {s : State} (h : s.ppu.lcdOn = true) (frames start : Nat) :
    s.frameEnds frames start = decide (s.framesDone ≠ frames) := by simp [State.frameEnds, h]

/-- A frame that has ended stays as it ended, however many steps are allowed. -/
theorem runFrameFrom_mono {frames start n : Nat} {s : State} {r : Result} (k : Nat)
    (h : runFrameFrom frames start n s = some r) : runFrameFrom frames start (n + k) s = some r := by
  induction n generalizing s with
  | zero => exact nomatch h
  | succ n ih =>
    rw [Nat.succ_add]
    unfold runFrameFrom at h ⊢
    cases hs : step s with
    | next t =>
      rw [hs] at h
      dsimp only at h ⊢
      by_cases he : t.frameEnds frames start = true
      · rwa [if_pos he] at h ⊢
      · rw [if_neg he] at h ⊢
        exact ih h
    | fault f => rwa [hs] at h
    | refused f => rwa [hs] at h

theorem runFrame_mono {n : Nat} {s : State} {r : Result} (k : Nat) (h : runFrame n s = some r) :
    runFrame (n + k) s = some r := runFrameFrom_mono k h

end Sys2Proof.Machine
end

