-- ==== Sys2Proof/Laws/Ops.lean ====
section
/-! SUPPORT. What each shared operation does to the CPU's registers and to the bus trace, said once: one lemma per
operation and field. -/

namespace Sys2Proof.Machine

/-! ## Fetching and the stack -/

@[simp] theorem State.fetch8_val (s : State) : s.fetch8.1 = s.memReadValue s.cpu.pc := rfl

@[simp] theorem State.fetch8_cpu (s : State) : s.fetch8.2.cpu = { s.cpu with pc := s.cpu.pc + 1 } := by
  simp [State.fetch8, State.setPc]

@[simp] theorem State.fetch8_trace (s : State) :
    s.fetch8.2.trace = .read s.cpu.pc (s.memReadValue s.cpu.pc) :: s.trace := by
  simp [State.fetch8, State.setPc]

/-- Without a pending halt bug the opcode's fetch is an ordinary one (R13, R141). -/
theorem State.fetchOpcode_of_not {s : State} (h : s.cpu.haltBugPending = false) : s.fetchOpcode = s.fetch8 := by
  simp [State.fetchOpcode, h]

/-- With it, PC stays and the bug is over (R321). -/
theorem State.fetchOpcode_of_bug {s : State} (h : s.cpu.haltBugPending = true) :
    s.fetchOpcode = (s.memReadValue s.cpu.pc, (s.memReadState s.cpu.pc).setHaltBug false) := by
  simp [State.fetchOpcode, h]

/-- Two writes, the high byte first, and SP two lower (R13). -/
theorem State.push16_eq (s : State) (v : Word) :
    s.push16 v = (((s.setSp (s.cpu.sp - 1)).memWrite (s.cpu.sp - 1) (hiByte v)).setSp (s.cpu.sp - 1 - 1)).memWrite
      (s.cpu.sp - 1 - 1) (loByte v) := by
  simp [State.push16, State.setSp]

@[simp] theorem State.push16_cpu (s : State) (v : Word) :
    (s.push16 v).cpu = { s.cpu with sp := s.cpu.sp - 1 - 1 } := by
  simp [State.push16_eq, State.setSp]

@[simp] theorem State.push16_trace (s : State) (v : Word) :
    (s.push16 v).trace =
      .write (s.cpu.sp - 1 - 1) (loByte v) :: .write (s.cpu.sp - 1) (hiByte v) :: s.trace := by
  simp [State.push16_eq, State.setSp]

/-- Two reads, the low byte first, and SP two higher (R13). -/
theorem State.pop16_eq (s : State) :
    s.pop16 =
      (wordOf (((s.memReadState s.cpu.sp).setSp (s.cpu.sp + 1)).memReadValue (s.cpu.sp + 1)) (s.memReadValue s.cpu.sp),
        (((s.memReadState s.cpu.sp).setSp (s.cpu.sp + 1)).memReadState (s.cpu.sp + 1)).setSp (s.cpu.sp + 1 + 1)) := by
  simp [State.pop16, State.memRead, State.setSp]

@[simp] theorem State.pop16_cpu (s : State) : s.pop16.2.cpu = { s.cpu with sp := s.cpu.sp + 1 + 1 } := by
  simp [State.pop16_eq, State.setSp]

/-! ## Interrupts -/

@[simp] theorem State.dispatchCycles_cpu (s : State) :
    s.dispatchCycles.cpu = { s.cpu with sp := s.cpu.sp - 1 - 1 } := by
  simp [State.dispatchCycles]

/-- What taking an interrupt answers when it answers a next state (R351). -/
theorem State.takeInterrupt_next {s t : State} (e : s.takeInterrupt = .next t) :
    s.dispatchCycles.irq.pending ≠ 0 ∧
    t = s.dispatchCycles.enterHandler (lowestIrq s.dispatchCycles.irq.pending) := by
  unfold State.takeInterrupt at e
  generalize s.dispatchCycles = u at e
  dsimp only at e
  split at e
  · exact nomatch e
  · next h => exact ⟨h, (Host.Outcome.next.inj e).symm⟩

@[simp] theorem State.enterHandler_cpu (s : State) (i : Nat) :
    (s.enterHandler i).cpu = { s.cpu with pc := vector i, ime := .disabled } := rfl

@[simp] theorem State.returnFromInterrupt_cpu (s : State) :
    s.returnFromInterrupt.cpu = { s.cpu with sp := s.cpu.sp + 1 + 1, pc := s.pop16.1, ime := .enabled } := by
  simp [State.returnFromInterrupt, State.setPc, State.setIme]

/-! ## The CPU's registers after each shared operation -/

@[simp] theorem State.copyReg_cpu (s : State) (dst r : Reg) :
    (State.copyReg dst r s).cpu = s.cpu.withReg dst (s.cpu.reg r) := rfl

@[simp] theorem State.loadReg_cpu (s : State) (dst : Reg) (a : Word) :
    (State.loadReg dst a s).cpu = s.cpu.withReg dst (s.memReadValue a) := by
  simp [State.loadReg, State.setReg]

@[simp] theorem State.storeReg_cpu (s : State) (r : Reg) (a : Word) : (State.storeReg r a s).cpu = s.cpu := by
  simp [State.storeReg]

@[simp] theorem State.storeSp_cpu (s : State) (nn : Word) : (State.storeSp nn s).cpu = s.cpu := by
  simp [State.storeSp]

@[simp] theorem State.pushPair_cpu (s : State) (p : StkPair) :
    (State.pushPair p s).cpu = { s.cpu with sp := s.cpu.sp - 1 - 1 } := by
  simp [State.pushPair]

@[simp] theorem State.popPair_cpu (s : State) (p : StkPair) :
    (State.popPair p s).cpu = ({ s.cpu with sp := s.cpu.sp + 1 + 1 } : Cpu).withStkPair p s.pop16.1 := by
  simp [State.popPair, State.setStkPair]

@[simp] theorem State.putA_cpu (s : State) (o : AluOut) :
    (State.putA o s).cpu = { s.cpu with a := o.val, f := o.flags } := rfl

@[simp] theorem State.putReg_cpu (s : State) (r : Reg) (o : AluOut) :
    (State.putReg r o s).cpu = { s.cpu.withReg r o.val with f := o.flags } := rfl

@[simp] theorem State.putMem_cpu (s : State) (o : AluOut) :
    (State.putMem o s).cpu = { s.cpu with f := o.flags } := by
  simp [State.putMem, State.setFlags]

@[simp] theorem State.modifyMem_cpu (s : State) (f : Byte → Byte) : (State.modifyMem f s).cpu = s.cpu := by
  simp [State.modifyMem]

@[simp] theorem State.jump_cpu (s : State) (v : Word) : (State.jump v s).cpu = { s.cpu with pc := v } := by
  simp [State.jump, State.setPc]

@[simp] theorem State.call_cpu (s : State) (v : Word) :
    (State.call v s).cpu = { s.cpu with sp := s.cpu.sp - 1 - 1, pc := v } := by
  simp [State.call, State.setPc]

@[simp] theorem State.ret_cpu (s : State) :
    s.ret.cpu = { s.cpu with sp := s.cpu.sp + 1 + 1, pc := s.pop16.1 } := by
  simp [State.ret, State.setPc]

end Sys2Proof.Machine
end

