-- ==== Sys2Proof/Laws/PerInstr.lean ====
section
/-! SUPPORT. The family `Encoding`: the bytes of every instruction begin with an opcode whose length, by the first
byte alone, is their number (30_encoding.md R140, R145). One lemma per constructor. -/

namespace Sys2Proof.Laws

/-- The encoding of `i` begins with a byte that tells how many bytes it has (R145). -/
def Encoding.Statement (i : Instr) : Prop :=
  ∃ op rest, encode i = op :: rest ∧ instrLength op = 1 + rest.length

theorem Encoding.ldBCnn (nn : Word) : Encoding.Statement (.ldBCnn nn) := ⟨_, _, rfl, rfl⟩
theorem Encoding.ldBn (n : Byte) : Encoding.Statement (.ldBn n) := ⟨_, _, rfl, rfl⟩
theorem Encoding.ldMemNnSP (nn : Word) : Encoding.Statement (.ldMemNnSP nn) := ⟨_, _, rfl, rfl⟩
theorem Encoding.ldCn (n : Byte) : Encoding.Statement (.ldCn n) := ⟨_, _, rfl, rfl⟩
theorem Encoding.ldDEnn (nn : Word) : Encoding.Statement (.ldDEnn nn) := ⟨_, _, rfl, rfl⟩
theorem Encoding.ldDn (n : Byte) : Encoding.Statement (.ldDn n) := ⟨_, _, rfl, rfl⟩
theorem Encoding.jre (e : Byte) : Encoding.Statement (.jre e) := ⟨_, _, rfl, rfl⟩
theorem Encoding.ldEn (n : Byte) : Encoding.Statement (.ldEn n) := ⟨_, _, rfl, rfl⟩
theorem Encoding.jrNZe (e : Byte) : Encoding.Statement (.jrNZe e) := ⟨_, _, rfl, rfl⟩
theorem Encoding.ldHLnn (nn : Word) : Encoding.Statement (.ldHLnn nn) := ⟨_, _, rfl, rfl⟩
theorem Encoding.ldHn (n : Byte) : Encoding.Statement (.ldHn n) := ⟨_, _, rfl, rfl⟩
theorem Encoding.jrZe (e : Byte) : Encoding.Statement (.jrZe e) := ⟨_, _, rfl, rfl⟩
theorem Encoding.ldLn (n : Byte) : Encoding.Statement (.ldLn n) := ⟨_, _, rfl, rfl⟩
theorem Encoding.jrNCe (e : Byte) : Encoding.Statement (.jrNCe e) := ⟨_, _, rfl, rfl⟩
theorem Encoding.ldSPnn (nn : Word) : Encoding.Statement (.ldSPnn nn) := ⟨_, _, rfl, rfl⟩
theorem Encoding.ldMemHLn (n : Byte) : Encoding.Statement (.ldMemHLn n) := ⟨_, _, rfl, rfl⟩
theorem Encoding.jrCe (e : Byte) : Encoding.Statement (.jrCe e) := ⟨_, _, rfl, rfl⟩
theorem Encoding.ldAn (n : Byte) : Encoding.Statement (.ldAn n) := ⟨_, _, rfl, rfl⟩
theorem Encoding.jpNZnn (nn : Word) : Encoding.Statement (.jpNZnn nn) := ⟨_, _, rfl, rfl⟩
theorem Encoding.jpnn (nn : Word) : Encoding.Statement (.jpnn nn) := ⟨_, _, rfl, rfl⟩
theorem Encoding.callNZnn (nn : Word) : Encoding.Statement (.callNZnn nn) := ⟨_, _, rfl, rfl⟩
theorem Encoding.addAn (n : Byte) : Encoding.Statement (.addAn n) := ⟨_, _, rfl, rfl⟩
theorem Encoding.jpZnn (nn : Word) : Encoding.Statement (.jpZnn nn) := ⟨_, _, rfl, rfl⟩
theorem Encoding.prefixCB (op2 : Byte) : Encoding.Statement (.prefixCB op2) := ⟨_, _, rfl, rfl⟩
theorem Encoding.callZnn (nn : Word) : Encoding.Statement (.callZnn nn) := ⟨_, _, rfl, rfl⟩
theorem Encoding.callnn (nn : Word) : Encoding.Statement (.callnn nn) := ⟨_, _, rfl, rfl⟩
theorem Encoding.adcAn (n : Byte) : Encoding.Statement (.adcAn n) := ⟨_, _, rfl, rfl⟩
theorem Encoding.jpNCnn (nn : Word) : Encoding.Statement (.jpNCnn nn) := ⟨_, _, rfl, rfl⟩
theorem Encoding.callNCnn (nn : Word) : Encoding.Statement (.callNCnn nn) := ⟨_, _, rfl, rfl⟩
theorem Encoding.subn (n : Byte) : Encoding.Statement (.subn n) := ⟨_, _, rfl, rfl⟩
theorem Encoding.jpCnn (nn : Word) : Encoding.Statement (.jpCnn nn) := ⟨_, _, rfl, rfl⟩
theorem Encoding.callCnn (nn : Word) : Encoding.Statement (.callCnn nn) := ⟨_, _, rfl, rfl⟩
theorem Encoding.sbcAn (n : Byte) : Encoding.Statement (.sbcAn n) := ⟨_, _, rfl, rfl⟩
theorem Encoding.ldhMemNA (n : Byte) : Encoding.Statement (.ldhMemNA n) := ⟨_, _, rfl, rfl⟩
theorem Encoding.andn (n : Byte) : Encoding.Statement (.andn n) := ⟨_, _, rfl, rfl⟩
theorem Encoding.addSPe (e : Byte) : Encoding.Statement (.addSPe e) := ⟨_, _, rfl, rfl⟩
theorem Encoding.ldMemNnA (nn : Word) : Encoding.Statement (.ldMemNnA nn) := ⟨_, _, rfl, rfl⟩
theorem Encoding.xorn (n : Byte) : Encoding.Statement (.xorn n) := ⟨_, _, rfl, rfl⟩
theorem Encoding.ldhAMemN (n : Byte) : Encoding.Statement (.ldhAMemN n) := ⟨_, _, rfl, rfl⟩
theorem Encoding.orn (n : Byte) : Encoding.Statement (.orn n) := ⟨_, _, rfl, rfl⟩
theorem Encoding.ldHLSPe (e : Byte) : Encoding.Statement (.ldHLSPe e) := ⟨_, _, rfl, rfl⟩
theorem Encoding.ldAMemNn (nn : Word) : Encoding.Statement (.ldAMemNn nn) := ⟨_, _, rfl, rfl⟩
theorem Encoding.cpn (n : Byte) : Encoding.Statement (.cpn n) := ⟨_, _, rfl, rfl⟩
theorem Encoding.nop : Encoding.Statement (.nop) := ⟨_, _, rfl, rfl⟩
theorem Encoding.ldMemBCA : Encoding.Statement (.ldMemBCA) := ⟨_, _, rfl, rfl⟩
theorem Encoding.incBC : Encoding.Statement (.incBC) := ⟨_, _, rfl, rfl⟩
theorem Encoding.incB : Encoding.Statement (.incB) := ⟨_, _, rfl, rfl⟩
theorem Encoding.decB : Encoding.Statement (.decB) := ⟨_, _, rfl, rfl⟩
theorem Encoding.rlca : Encoding.Statement (.rlca) := ⟨_, _, rfl, rfl⟩
theorem Encoding.addHLBC : Encoding.Statement (.addHLBC) := ⟨_, _, rfl, rfl⟩
theorem Encoding.ldAMemBC : Encoding.Statement (.ldAMemBC) := ⟨_, _, rfl, rfl⟩
theorem Encoding.decBC : Encoding.Statement (.decBC) := ⟨_, _, rfl, rfl⟩
theorem Encoding.incC : Encoding.Statement (.incC) := ⟨_, _, rfl, rfl⟩
theorem Encoding.decC : Encoding.Statement (.decC) := ⟨_, _, rfl, rfl⟩
theorem Encoding.rrca : Encoding.Statement (.rrca) := ⟨_, _, rfl, rfl⟩
theorem Encoding.stop : Encoding.Statement (.stop) := ⟨_, _, rfl, rfl⟩
theorem Encoding.ldMemDEA : Encoding.Statement (.ldMemDEA) := ⟨_, _, rfl, rfl⟩
theorem Encoding.incDE : Encoding.Statement (.incDE) := ⟨_, _, rfl, rfl⟩
theorem Encoding.incD : Encoding.Statement (.incD) := ⟨_, _, rfl, rfl⟩
theorem Encoding.decD : Encoding.Statement (.decD) := ⟨_, _, rfl, rfl⟩
theorem Encoding.rla : Encoding.Statement (.rla) := ⟨_, _, rfl, rfl⟩
theorem Encoding.addHLDE : Encoding.Statement (.addHLDE) := ⟨_, _, rfl, rfl⟩
theorem Encoding.ldAMemDE : Encoding.Statement (.ldAMemDE) := ⟨_, _, rfl, rfl⟩
theorem Encoding.decDE : Encoding.Statement (.decDE) := ⟨_, _, rfl, rfl⟩
theorem Encoding.incE : Encoding.Statement (.incE) := ⟨_, _, rfl, rfl⟩
theorem Encoding.decE : Encoding.Statement (.decE) := ⟨_, _, rfl, rfl⟩
theorem Encoding.rra : Encoding.Statement (.rra) := ⟨_, _, rfl, rfl⟩
theorem Encoding.ldMemHLIncA : Encoding.Statement (.ldMemHLIncA) := ⟨_, _, rfl, rfl⟩
theorem Encoding.incHL : Encoding.Statement (.incHL) := ⟨_, _, rfl, rfl⟩
theorem Encoding.incH : Encoding.Statement (.incH) := ⟨_, _, rfl, rfl⟩
theorem Encoding.decH : Encoding.Statement (.decH) := ⟨_, _, rfl, rfl⟩
theorem Encoding.daa : Encoding.Statement (.daa) := ⟨_, _, rfl, rfl⟩
theorem Encoding.addHLHL : Encoding.Statement (.addHLHL) := ⟨_, _, rfl, rfl⟩
theorem Encoding.ldAMemHLInc : Encoding.Statement (.ldAMemHLInc) := ⟨_, _, rfl, rfl⟩
theorem Encoding.decHL : Encoding.Statement (.decHL) := ⟨_, _, rfl, rfl⟩
theorem Encoding.incL : Encoding.Statement (.incL) := ⟨_, _, rfl, rfl⟩
theorem Encoding.decL : Encoding.Statement (.decL) := ⟨_, _, rfl, rfl⟩
theorem Encoding.cpl : Encoding.Statement (.cpl) := ⟨_, _, rfl, rfl⟩
theorem Encoding.ldMemHLDecA : Encoding.Statement (.ldMemHLDecA) := ⟨_, _, rfl, rfl⟩
theorem Encoding.incSP : Encoding.Statement (.incSP) := ⟨_, _, rfl, rfl⟩
theorem Encoding.incMemHL : Encoding.Statement (.incMemHL) := ⟨_, _, rfl, rfl⟩
theorem Encoding.decMemHL : Encoding.Statement (.decMemHL) := ⟨_, _, rfl, rfl⟩
theorem Encoding.scf : Encoding.Statement (.scf) := ⟨_, _, rfl, rfl⟩
theorem Encoding.addHLSP : Encoding.Statement (.addHLSP) := ⟨_, _, rfl, rfl⟩
theorem Encoding.ldAMemHLDec : Encoding.Statement (.ldAMemHLDec) := ⟨_, _, rfl, rfl⟩
theorem Encoding.decSP : Encoding.Statement (.decSP) := ⟨_, _, rfl, rfl⟩
theorem Encoding.incA : Encoding.Statement (.incA) := ⟨_, _, rfl, rfl⟩
theorem Encoding.decA : Encoding.Statement (.decA) := ⟨_, _, rfl, rfl⟩
theorem Encoding.ccf : Encoding.Statement (.ccf) := ⟨_, _, rfl, rfl⟩
theorem Encoding.ldBB : Encoding.Statement (.ldBB) := ⟨_, _, rfl, rfl⟩
theorem Encoding.ldBC : Encoding.Statement (.ldBC) := ⟨_, _, rfl, rfl⟩
theorem Encoding.ldBD : Encoding.Statement (.ldBD) := ⟨_, _, rfl, rfl⟩
theorem Encoding.ldBE : Encoding.Statement (.ldBE) := ⟨_, _, rfl, rfl⟩
theorem Encoding.ldBH : Encoding.Statement (.ldBH) := ⟨_, _, rfl, rfl⟩
theorem Encoding.ldBL : Encoding.Statement (.ldBL) := ⟨_, _, rfl, rfl⟩
theorem Encoding.ldBMemHL : Encoding.Statement (.ldBMemHL) := ⟨_, _, rfl, rfl⟩
theorem Encoding.ldBA : Encoding.Statement (.ldBA) := ⟨_, _, rfl, rfl⟩
theorem Encoding.ldCB : Encoding.Statement (.ldCB) := ⟨_, _, rfl, rfl⟩
theorem Encoding.ldCC : Encoding.Statement (.ldCC) := ⟨_, _, rfl, rfl⟩
theorem Encoding.ldCD : Encoding.Statement (.ldCD) := ⟨_, _, rfl, rfl⟩
theorem Encoding.ldCE : Encoding.Statement (.ldCE) := ⟨_, _, rfl, rfl⟩
theorem Encoding.ldCH : Encoding.Statement (.ldCH) := ⟨_, _, rfl, rfl⟩
theorem Encoding.ldCL : Encoding.Statement (.ldCL) := ⟨_, _, rfl, rfl⟩
theorem Encoding.ldCMemHL : Encoding.Statement (.ldCMemHL) := ⟨_, _, rfl, rfl⟩
theorem Encoding.ldCA : Encoding.Statement (.ldCA) := ⟨_, _, rfl, rfl⟩
theorem Encoding.ldDB : Encoding.Statement (.ldDB) := ⟨_, _, rfl, rfl⟩
theorem Encoding.ldDC : Encoding.Statement (.ldDC) := ⟨_, _, rfl, rfl⟩
theorem Encoding.ldDD : Encoding.Statement (.ldDD) := ⟨_, _, rfl, rfl⟩
theorem Encoding.ldDE : Encoding.Statement (.ldDE) := ⟨_, _, rfl, rfl⟩
theorem Encoding.ldDH : Encoding.Statement (.ldDH) := ⟨_, _, rfl, rfl⟩
theorem Encoding.ldDL : Encoding.Statement (.ldDL) := ⟨_, _, rfl, rfl⟩
theorem Encoding.ldDMemHL : Encoding.Statement (.ldDMemHL) := ⟨_, _, rfl, rfl⟩
theorem Encoding.ldDA : Encoding.Statement (.ldDA) := ⟨_, _, rfl, rfl⟩
theorem Encoding.ldEB : Encoding.Statement (.ldEB) := ⟨_, _, rfl, rfl⟩
theorem Encoding.ldEC : Encoding.Statement (.ldEC) := ⟨_, _, rfl, rfl⟩
theorem Encoding.ldED : Encoding.Statement (.ldED) := ⟨_, _, rfl, rfl⟩
theorem Encoding.ldEE : Encoding.Statement (.ldEE) := ⟨_, _, rfl, rfl⟩
theorem Encoding.ldEH : Encoding.Statement (.ldEH) := ⟨_, _, rfl, rfl⟩
theorem Encoding.ldEL : Encoding.Statement (.ldEL) := ⟨_, _, rfl, rfl⟩
theorem Encoding.ldEMemHL : Encoding.Statement (.ldEMemHL) := ⟨_, _, rfl, rfl⟩
theorem Encoding.ldEA : Encoding.Statement (.ldEA) := ⟨_, _, rfl, rfl⟩
theorem Encoding.ldHB : Encoding.Statement (.ldHB) := ⟨_, _, rfl, rfl⟩
theorem Encoding.ldHC : Encoding.Statement (.ldHC) := ⟨_, _, rfl, rfl⟩
theorem Encoding.ldHD : Encoding.Statement (.ldHD) := ⟨_, _, rfl, rfl⟩
theorem Encoding.ldHE : Encoding.Statement (.ldHE) := ⟨_, _, rfl, rfl⟩
theorem Encoding.ldHH : Encoding.Statement (.ldHH) := ⟨_, _, rfl, rfl⟩
theorem Encoding.ldHL : Encoding.Statement (.ldHL) := ⟨_, _, rfl, rfl⟩
theorem Encoding.ldHMemHL : Encoding.Statement (.ldHMemHL) := ⟨_, _, rfl, rfl⟩
theorem Encoding.ldHA : Encoding.Statement (.ldHA) := ⟨_, _, rfl, rfl⟩
theorem Encoding.ldLB : Encoding.Statement (.ldLB) := ⟨_, _, rfl, rfl⟩
theorem Encoding.ldLC : Encoding.Statement (.ldLC) := ⟨_, _, rfl, rfl⟩
theorem Encoding.ldLD : Encoding.Statement (.ldLD) := ⟨_, _, rfl, rfl⟩
theorem Encoding.ldLE : Encoding.Statement (.ldLE) := ⟨_, _, rfl, rfl⟩
theorem Encoding.ldLH : Encoding.Statement (.ldLH) := ⟨_, _, rfl, rfl⟩
theorem Encoding.ldLL : Encoding.Statement (.ldLL) := ⟨_, _, rfl, rfl⟩
theorem Encoding.ldLMemHL : Encoding.Statement (.ldLMemHL) := ⟨_, _, rfl, rfl⟩
theorem Encoding.ldLA : Encoding.Statement (.ldLA) := ⟨_, _, rfl, rfl⟩
theorem Encoding.ldMemHLB : Encoding.Statement (.ldMemHLB) := ⟨_, _, rfl, rfl⟩
theorem Encoding.ldMemHLC : Encoding.Statement (.ldMemHLC) := ⟨_, _, rfl, rfl⟩
theorem Encoding.ldMemHLD : Encoding.Statement (.ldMemHLD) := ⟨_, _, rfl, rfl⟩
theorem Encoding.ldMemHLE : Encoding.Statement (.ldMemHLE) := ⟨_, _, rfl, rfl⟩
theorem Encoding.ldMemHLH : Encoding.Statement (.ldMemHLH) := ⟨_, _, rfl, rfl⟩
theorem Encoding.ldMemHLL : Encoding.Statement (.ldMemHLL) := ⟨_, _, rfl, rfl⟩
theorem Encoding.halt : Encoding.Statement (.halt) := ⟨_, _, rfl, rfl⟩
theorem Encoding.ldMemHLA : Encoding.Statement (.ldMemHLA) := ⟨_, _, rfl, rfl⟩
theorem Encoding.ldAB : Encoding.Statement (.ldAB) := ⟨_, _, rfl, rfl⟩
theorem Encoding.ldAC : Encoding.Statement (.ldAC) := ⟨_, _, rfl, rfl⟩
theorem Encoding.ldAD : Encoding.Statement (.ldAD) := ⟨_, _, rfl, rfl⟩
theorem Encoding.ldAE : Encoding.Statement (.ldAE) := ⟨_, _, rfl, rfl⟩
theorem Encoding.ldAH : Encoding.Statement (.ldAH) := ⟨_, _, rfl, rfl⟩
theorem Encoding.ldAL : Encoding.Statement (.ldAL) := ⟨_, _, rfl, rfl⟩
theorem Encoding.ldAMemHL : Encoding.Statement (.ldAMemHL) := ⟨_, _, rfl, rfl⟩
theorem Encoding.ldAA : Encoding.Statement (.ldAA) := ⟨_, _, rfl, rfl⟩
theorem Encoding.addAB : Encoding.Statement (.addAB) := ⟨_, _, rfl, rfl⟩
theorem Encoding.addAC : Encoding.Statement (.addAC) := ⟨_, _, rfl, rfl⟩
theorem Encoding.addAD : Encoding.Statement (.addAD) := ⟨_, _, rfl, rfl⟩
theorem Encoding.addAE : Encoding.Statement (.addAE) := ⟨_, _, rfl, rfl⟩
theorem Encoding.addAH : Encoding.Statement (.addAH) := ⟨_, _, rfl, rfl⟩
theorem Encoding.addAL : Encoding.Statement (.addAL) := ⟨_, _, rfl, rfl⟩
theorem Encoding.addAMemHL : Encoding.Statement (.addAMemHL) := ⟨_, _, rfl, rfl⟩
theorem Encoding.addAA : Encoding.Statement (.addAA) := ⟨_, _, rfl, rfl⟩
theorem Encoding.adcAB : Encoding.Statement (.adcAB) := ⟨_, _, rfl, rfl⟩
theorem Encoding.adcAC : Encoding.Statement (.adcAC) := ⟨_, _, rfl, rfl⟩
theorem Encoding.adcAD : Encoding.Statement (.adcAD) := ⟨_, _, rfl, rfl⟩
theorem Encoding.adcAE : Encoding.Statement (.adcAE) := ⟨_, _, rfl, rfl⟩
theorem Encoding.adcAH : Encoding.Statement (.adcAH) := ⟨_, _, rfl, rfl⟩
theorem Encoding.adcAL : Encoding.Statement (.adcAL) := ⟨_, _, rfl, rfl⟩
theorem Encoding.adcAMemHL : Encoding.Statement (.adcAMemHL) := ⟨_, _, rfl, rfl⟩
theorem Encoding.adcAA : Encoding.Statement (.adcAA) := ⟨_, _, rfl, rfl⟩
theorem Encoding.subB : Encoding.Statement (.subB) := ⟨_, _, rfl, rfl⟩
theorem Encoding.subC : Encoding.Statement (.subC) := ⟨_, _, rfl, rfl⟩
theorem Encoding.subD : Encoding.Statement (.subD) := ⟨_, _, rfl, rfl⟩
theorem Encoding.subE : Encoding.Statement (.subE) := ⟨_, _, rfl, rfl⟩
theorem Encoding.subH : Encoding.Statement (.subH) := ⟨_, _, rfl, rfl⟩
theorem Encoding.subL : Encoding.Statement (.subL) := ⟨_, _, rfl, rfl⟩
theorem Encoding.subMemHL : Encoding.Statement (.subMemHL) := ⟨_, _, rfl, rfl⟩
theorem Encoding.subA : Encoding.Statement (.subA) := ⟨_, _, rfl, rfl⟩
theorem Encoding.sbcAB : Encoding.Statement (.sbcAB) := ⟨_, _, rfl, rfl⟩
theorem Encoding.sbcAC : Encoding.Statement (.sbcAC) := ⟨_, _, rfl, rfl⟩
theorem Encoding.sbcAD : Encoding.Statement (.sbcAD) := ⟨_, _, rfl, rfl⟩
theorem Encoding.sbcAE : Encoding.Statement (.sbcAE) := ⟨_, _, rfl, rfl⟩
theorem Encoding.sbcAH : Encoding.Statement (.sbcAH) := ⟨_, _, rfl, rfl⟩
theorem Encoding.sbcAL : Encoding.Statement (.sbcAL) := ⟨_, _, rfl, rfl⟩
theorem Encoding.sbcAMemHL : Encoding.Statement (.sbcAMemHL) := ⟨_, _, rfl, rfl⟩
theorem Encoding.sbcAA : Encoding.Statement (.sbcAA) := ⟨_, _, rfl, rfl⟩
theorem Encoding.andB : Encoding.Statement (.andB) := ⟨_, _, rfl, rfl⟩
theorem Encoding.andC : Encoding.Statement (.andC) := ⟨_, _, rfl, rfl⟩
theorem Encoding.andD : Encoding.Statement (.andD) := ⟨_, _, rfl, rfl⟩
theorem Encoding.andE : Encoding.Statement (.andE) := ⟨_, _, rfl, rfl⟩
theorem Encoding.andH : Encoding.Statement (.andH) := ⟨_, _, rfl, rfl⟩
theorem Encoding.andL : Encoding.Statement (.andL) := ⟨_, _, rfl, rfl⟩
theorem Encoding.andMemHL : Encoding.Statement (.andMemHL) := ⟨_, _, rfl, rfl⟩
theorem Encoding.andA : Encoding.Statement (.andA) := ⟨_, _, rfl, rfl⟩
theorem Encoding.xorB : Encoding.Statement (.xorB) := ⟨_, _, rfl, rfl⟩
theorem Encoding.xorC : Encoding.Statement (.xorC) := ⟨_, _, rfl, rfl⟩
theorem Encoding.xorD : Encoding.Statement (.xorD) := ⟨_, _, rfl, rfl⟩
theorem Encoding.xorE : Encoding.Statement (.xorE) := ⟨_, _, rfl, rfl⟩
theorem Encoding.xorH : Encoding.Statement (.xorH) := ⟨_, _, rfl, rfl⟩
theorem Encoding.xorL : Encoding.Statement (.xorL) := ⟨_, _, rfl, rfl⟩
theorem Encoding.xorMemHL : Encoding.Statement (.xorMemHL) := ⟨_, _, rfl, rfl⟩
theorem Encoding.xorA : Encoding.Statement (.xorA) := ⟨_, _, rfl, rfl⟩
theorem Encoding.orB : Encoding.Statement (.orB) := ⟨_, _, rfl, rfl⟩
theorem Encoding.orC : Encoding.Statement (.orC) := ⟨_, _, rfl, rfl⟩
theorem Encoding.orD : Encoding.Statement (.orD) := ⟨_, _, rfl, rfl⟩
theorem Encoding.orE : Encoding.Statement (.orE) := ⟨_, _, rfl, rfl⟩
theorem Encoding.orH : Encoding.Statement (.orH) := ⟨_, _, rfl, rfl⟩
theorem Encoding.orL : Encoding.Statement (.orL) := ⟨_, _, rfl, rfl⟩
theorem Encoding.orMemHL : Encoding.Statement (.orMemHL) := ⟨_, _, rfl, rfl⟩
theorem Encoding.orA : Encoding.Statement (.orA) := ⟨_, _, rfl, rfl⟩
theorem Encoding.cpB : Encoding.Statement (.cpB) := ⟨_, _, rfl, rfl⟩
theorem Encoding.cpC : Encoding.Statement (.cpC) := ⟨_, _, rfl, rfl⟩
theorem Encoding.cpD : Encoding.Statement (.cpD) := ⟨_, _, rfl, rfl⟩
theorem Encoding.cpE : Encoding.Statement (.cpE) := ⟨_, _, rfl, rfl⟩
theorem Encoding.cpH : Encoding.Statement (.cpH) := ⟨_, _, rfl, rfl⟩
theorem Encoding.cpL : Encoding.Statement (.cpL) := ⟨_, _, rfl, rfl⟩
theorem Encoding.cpMemHL : Encoding.Statement (.cpMemHL) := ⟨_, _, rfl, rfl⟩
theorem Encoding.cpA : Encoding.Statement (.cpA) := ⟨_, _, rfl, rfl⟩
theorem Encoding.retNZ : Encoding.Statement (.retNZ) := ⟨_, _, rfl, rfl⟩
theorem Encoding.popBC : Encoding.Statement (.popBC) := ⟨_, _, rfl, rfl⟩
theorem Encoding.pushBC : Encoding.Statement (.pushBC) := ⟨_, _, rfl, rfl⟩
theorem Encoding.rst00 : Encoding.Statement (.rst00) := ⟨_, _, rfl, rfl⟩
theorem Encoding.retZ : Encoding.Statement (.retZ) := ⟨_, _, rfl, rfl⟩
theorem Encoding.ret : Encoding.Statement (.ret) := ⟨_, _, rfl, rfl⟩
theorem Encoding.rst08 : Encoding.Statement (.rst08) := ⟨_, _, rfl, rfl⟩
theorem Encoding.retNC : Encoding.Statement (.retNC) := ⟨_, _, rfl, rfl⟩
theorem Encoding.popDE : Encoding.Statement (.popDE) := ⟨_, _, rfl, rfl⟩
theorem Encoding.illegalD3 : Encoding.Statement (.illegalD3) := ⟨_, _, rfl, rfl⟩
theorem Encoding.pushDE : Encoding.Statement (.pushDE) := ⟨_, _, rfl, rfl⟩
theorem Encoding.rst10 : Encoding.Statement (.rst10) := ⟨_, _, rfl, rfl⟩
theorem Encoding.retC : Encoding.Statement (.retC) := ⟨_, _, rfl, rfl⟩
theorem Encoding.reti : Encoding.Statement (.reti) := ⟨_, _, rfl, rfl⟩
theorem Encoding.illegalDB : Encoding.Statement (.illegalDB) := ⟨_, _, rfl, rfl⟩
theorem Encoding.illegalDD : Encoding.Statement (.illegalDD) := ⟨_, _, rfl, rfl⟩
theorem Encoding.rst18 : Encoding.Statement (.rst18) := ⟨_, _, rfl, rfl⟩
theorem Encoding.popHL : Encoding.Statement (.popHL) := ⟨_, _, rfl, rfl⟩
theorem Encoding.ldhMemCA : Encoding.Statement (.ldhMemCA) := ⟨_, _, rfl, rfl⟩
theorem Encoding.illegalE3 : Encoding.Statement (.illegalE3) := ⟨_, _, rfl, rfl⟩
theorem Encoding.illegalE4 : Encoding.Statement (.illegalE4) := ⟨_, _, rfl, rfl⟩
theorem Encoding.pushHL : Encoding.Statement (.pushHL) := ⟨_, _, rfl, rfl⟩
theorem Encoding.rst20 : Encoding.Statement (.rst20) := ⟨_, _, rfl, rfl⟩
theorem Encoding.jpHL : Encoding.Statement (.jpHL) := ⟨_, _, rfl, rfl⟩
theorem Encoding.illegalEB : Encoding.Statement (.illegalEB) := ⟨_, _, rfl, rfl⟩
theorem Encoding.illegalEC : Encoding.Statement (.illegalEC) := ⟨_, _, rfl, rfl⟩
theorem Encoding.illegalED : Encoding.Statement (.illegalED) := ⟨_, _, rfl, rfl⟩
theorem Encoding.rst28 : Encoding.Statement (.rst28) := ⟨_, _, rfl, rfl⟩
theorem Encoding.popAF : Encoding.Statement (.popAF) := ⟨_, _, rfl, rfl⟩
theorem Encoding.ldhAMemC : Encoding.Statement (.ldhAMemC) := ⟨_, _, rfl, rfl⟩
theorem Encoding.di : Encoding.Statement (.di) := ⟨_, _, rfl, rfl⟩
theorem Encoding.illegalF4 : Encoding.Statement (.illegalF4) := ⟨_, _, rfl, rfl⟩
theorem Encoding.pushAF : Encoding.Statement (.pushAF) := ⟨_, _, rfl, rfl⟩
theorem Encoding.rst30 : Encoding.Statement (.rst30) := ⟨_, _, rfl, rfl⟩
theorem Encoding.ldSPHL : Encoding.Statement (.ldSPHL) := ⟨_, _, rfl, rfl⟩
theorem Encoding.ei : Encoding.Statement (.ei) := ⟨_, _, rfl, rfl⟩
theorem Encoding.illegalFC : Encoding.Statement (.illegalFC) := ⟨_, _, rfl, rfl⟩
theorem Encoding.illegalFD : Encoding.Statement (.illegalFD) := ⟨_, _, rfl, rfl⟩
theorem Encoding.rst38 : Encoding.Statement (.rst38) := ⟨_, _, rfl, rfl⟩
theorem Encoding.rlcB : Encoding.Statement (.rlcB) := ⟨_, _, rfl, rfl⟩
theorem Encoding.rlcC : Encoding.Statement (.rlcC) := ⟨_, _, rfl, rfl⟩
theorem Encoding.rlcD : Encoding.Statement (.rlcD) := ⟨_, _, rfl, rfl⟩
theorem Encoding.rlcE : Encoding.Statement (.rlcE) := ⟨_, _, rfl, rfl⟩
theorem Encoding.rlcH : Encoding.Statement (.rlcH) := ⟨_, _, rfl, rfl⟩
theorem Encoding.rlcL : Encoding.Statement (.rlcL) := ⟨_, _, rfl, rfl⟩
theorem Encoding.rlcMemHL : Encoding.Statement (.rlcMemHL) := ⟨_, _, rfl, rfl⟩
theorem Encoding.rlcA : Encoding.Statement (.rlcA) := ⟨_, _, rfl, rfl⟩
theorem Encoding.rrcB : Encoding.Statement (.rrcB) := ⟨_, _, rfl, rfl⟩
theorem Encoding.rrcC : Encoding.Statement (.rrcC) := ⟨_, _, rfl, rfl⟩
theorem Encoding.rrcD : Encoding.Statement (.rrcD) := ⟨_, _, rfl, rfl⟩
theorem Encoding.rrcE : Encoding.Statement (.rrcE) := ⟨_, _, rfl, rfl⟩
theorem Encoding.rrcH : Encoding.Statement (.rrcH) := ⟨_, _, rfl, rfl⟩
theorem Encoding.rrcL : Encoding.Statement (.rrcL) := ⟨_, _, rfl, rfl⟩
theorem Encoding.rrcMemHL : Encoding.Statement (.rrcMemHL) := ⟨_, _, rfl, rfl⟩
theorem Encoding.rrcA : Encoding.Statement (.rrcA) := ⟨_, _, rfl, rfl⟩
theorem Encoding.rlB : Encoding.Statement (.rlB) := ⟨_, _, rfl, rfl⟩
theorem Encoding.rlC : Encoding.Statement (.rlC) := ⟨_, _, rfl, rfl⟩
theorem Encoding.rlD : Encoding.Statement (.rlD) := ⟨_, _, rfl, rfl⟩
theorem Encoding.rlE : Encoding.Statement (.rlE) := ⟨_, _, rfl, rfl⟩
theorem Encoding.rlH : Encoding.Statement (.rlH) := ⟨_, _, rfl, rfl⟩
theorem Encoding.rlL : Encoding.Statement (.rlL) := ⟨_, _, rfl, rfl⟩
theorem Encoding.rlMemHL : Encoding.Statement (.rlMemHL) := ⟨_, _, rfl, rfl⟩
theorem Encoding.rlA : Encoding.Statement (.rlA) := ⟨_, _, rfl, rfl⟩
theorem Encoding.rrB : Encoding.Statement (.rrB) := ⟨_, _, rfl, rfl⟩
theorem Encoding.rrC : Encoding.Statement (.rrC) := ⟨_, _, rfl, rfl⟩
theorem Encoding.rrD : Encoding.Statement (.rrD) := ⟨_, _, rfl, rfl⟩
theorem Encoding.rrE : Encoding.Statement (.rrE) := ⟨_, _, rfl, rfl⟩
theorem Encoding.rrH : Encoding.Statement (.rrH) := ⟨_, _, rfl, rfl⟩
theorem Encoding.rrL : Encoding.Statement (.rrL) := ⟨_, _, rfl, rfl⟩
theorem Encoding.rrMemHL : Encoding.Statement (.rrMemHL) := ⟨_, _, rfl, rfl⟩
theorem Encoding.rrA : Encoding.Statement (.rrA) := ⟨_, _, rfl, rfl⟩
theorem Encoding.slaB : Encoding.Statement (.slaB) := ⟨_, _, rfl, rfl⟩
theorem Encoding.slaC : Encoding.Statement (.slaC) := ⟨_, _, rfl, rfl⟩
theorem Encoding.slaD : Encoding.Statement (.slaD) := ⟨_, _, rfl, rfl⟩
theorem Encoding.slaE : Encoding.Statement (.slaE) := ⟨_, _, rfl, rfl⟩
theorem Encoding.slaH : Encoding.Statement (.slaH) := ⟨_, _, rfl, rfl⟩
theorem Encoding.slaL : Encoding.Statement (.slaL) := ⟨_, _, rfl, rfl⟩
theorem Encoding.slaMemHL : Encoding.Statement (.slaMemHL) := ⟨_, _, rfl, rfl⟩
theorem Encoding.slaA : Encoding.Statement (.slaA) := ⟨_, _, rfl, rfl⟩
theorem Encoding.sraB : Encoding.Statement (.sraB) := ⟨_, _, rfl, rfl⟩
theorem Encoding.sraC : Encoding.Statement (.sraC) := ⟨_, _, rfl, rfl⟩
theorem Encoding.sraD : Encoding.Statement (.sraD) := ⟨_, _, rfl, rfl⟩
theorem Encoding.sraE : Encoding.Statement (.sraE) := ⟨_, _, rfl, rfl⟩
theorem Encoding.sraH : Encoding.Statement (.sraH) := ⟨_, _, rfl, rfl⟩
theorem Encoding.sraL : Encoding.Statement (.sraL) := ⟨_, _, rfl, rfl⟩
theorem Encoding.sraMemHL : Encoding.Statement (.sraMemHL) := ⟨_, _, rfl, rfl⟩
theorem Encoding.sraA : Encoding.Statement (.sraA) := ⟨_, _, rfl, rfl⟩
theorem Encoding.swapB : Encoding.Statement (.swapB) := ⟨_, _, rfl, rfl⟩
theorem Encoding.swapC : Encoding.Statement (.swapC) := ⟨_, _, rfl, rfl⟩
theorem Encoding.swapD : Encoding.Statement (.swapD) := ⟨_, _, rfl, rfl⟩
theorem Encoding.swapE : Encoding.Statement (.swapE) := ⟨_, _, rfl, rfl⟩
theorem Encoding.swapH : Encoding.Statement (.swapH) := ⟨_, _, rfl, rfl⟩
theorem Encoding.swapL : Encoding.Statement (.swapL) := ⟨_, _, rfl, rfl⟩
theorem Encoding.swapMemHL : Encoding.Statement (.swapMemHL) := ⟨_, _, rfl, rfl⟩
theorem Encoding.swapA : Encoding.Statement (.swapA) := ⟨_, _, rfl, rfl⟩
theorem Encoding.srlB : Encoding.Statement (.srlB) := ⟨_, _, rfl, rfl⟩
theorem Encoding.srlC : Encoding.Statement (.srlC) := ⟨_, _, rfl, rfl⟩
theorem Encoding.srlD : Encoding.Statement (.srlD) := ⟨_, _, rfl, rfl⟩
theorem Encoding.srlE : Encoding.Statement (.srlE) := ⟨_, _, rfl, rfl⟩
theorem Encoding.srlH : Encoding.Statement (.srlH) := ⟨_, _, rfl, rfl⟩
theorem Encoding.srlL : Encoding.Statement (.srlL) := ⟨_, _, rfl, rfl⟩
theorem Encoding.srlMemHL : Encoding.Statement (.srlMemHL) := ⟨_, _, rfl, rfl⟩
theorem Encoding.srlA : Encoding.Statement (.srlA) := ⟨_, _, rfl, rfl⟩
theorem Encoding.bit0B : Encoding.Statement (.bit0B) := ⟨_, _, rfl, rfl⟩
theorem Encoding.bit0C : Encoding.Statement (.bit0C) := ⟨_, _, rfl, rfl⟩
theorem Encoding.bit0D : Encoding.Statement (.bit0D) := ⟨_, _, rfl, rfl⟩
theorem Encoding.bit0E : Encoding.Statement (.bit0E) := ⟨_, _, rfl, rfl⟩
theorem Encoding.bit0H : Encoding.Statement (.bit0H) := ⟨_, _, rfl, rfl⟩
theorem Encoding.bit0L : Encoding.Statement (.bit0L) := ⟨_, _, rfl, rfl⟩
theorem Encoding.bit0MemHL : Encoding.Statement (.bit0MemHL) := ⟨_, _, rfl, rfl⟩
theorem Encoding.bit0A : Encoding.Statement (.bit0A) := ⟨_, _, rfl, rfl⟩
theorem Encoding.bit1B : Encoding.Statement (.bit1B) := ⟨_, _, rfl, rfl⟩
theorem Encoding.bit1C : Encoding.Statement (.bit1C) := ⟨_, _, rfl, rfl⟩
theorem Encoding.bit1D : Encoding.Statement (.bit1D) := ⟨_, _, rfl, rfl⟩
theorem Encoding.bit1E : Encoding.Statement (.bit1E) := ⟨_, _, rfl, rfl⟩
theorem Encoding.bit1H : Encoding.Statement (.bit1H) := ⟨_, _, rfl, rfl⟩
theorem Encoding.bit1L : Encoding.Statement (.bit1L) := ⟨_, _, rfl, rfl⟩
theorem Encoding.bit1MemHL : Encoding.Statement (.bit1MemHL) := ⟨_, _, rfl, rfl⟩
theorem Encoding.bit1A : Encoding.Statement (.bit1A) := ⟨_, _, rfl, rfl⟩
theorem Encoding.bit2B : Encoding.Statement (.bit2B) := ⟨_, _, rfl, rfl⟩
theorem Encoding.bit2C : Encoding.Statement (.bit2C) := ⟨_, _, rfl, rfl⟩
theorem Encoding.bit2D : Encoding.Statement (.bit2D) := ⟨_, _, rfl, rfl⟩
theorem Encoding.bit2E : Encoding.Statement (.bit2E) := ⟨_, _, rfl, rfl⟩
theorem Encoding.bit2H : Encoding.Statement (.bit2H) := ⟨_, _, rfl, rfl⟩
theorem Encoding.bit2L : Encoding.Statement (.bit2L) := ⟨_, _, rfl, rfl⟩
theorem Encoding.bit2MemHL : Encoding.Statement (.bit2MemHL) := ⟨_, _, rfl, rfl⟩
theorem Encoding.bit2A : Encoding.Statement (.bit2A) := ⟨_, _, rfl, rfl⟩
theorem Encoding.bit3B : Encoding.Statement (.bit3B) := ⟨_, _, rfl, rfl⟩
theorem Encoding.bit3C : Encoding.Statement (.bit3C) := ⟨_, _, rfl, rfl⟩
theorem Encoding.bit3D : Encoding.Statement (.bit3D) := ⟨_, _, rfl, rfl⟩
theorem Encoding.bit3E : Encoding.Statement (.bit3E) := ⟨_, _, rfl, rfl⟩
theorem Encoding.bit3H : Encoding.Statement (.bit3H) := ⟨_, _, rfl, rfl⟩
theorem Encoding.bit3L : Encoding.Statement (.bit3L) := ⟨_, _, rfl, rfl⟩
theorem Encoding.bit3MemHL : Encoding.Statement (.bit3MemHL) := ⟨_, _, rfl, rfl⟩
theorem Encoding.bit3A : Encoding.Statement (.bit3A) := ⟨_, _, rfl, rfl⟩
theorem Encoding.bit4B : Encoding.Statement (.bit4B) := ⟨_, _, rfl, rfl⟩
theorem Encoding.bit4C : Encoding.Statement (.bit4C) := ⟨_, _, rfl, rfl⟩
theorem Encoding.bit4D : Encoding.Statement (.bit4D) := ⟨_, _, rfl, rfl⟩
theorem Encoding.bit4E : Encoding.Statement (.bit4E) := ⟨_, _, rfl, rfl⟩
theorem Encoding.bit4H : Encoding.Statement (.bit4H) := ⟨_, _, rfl, rfl⟩
theorem Encoding.bit4L : Encoding.Statement (.bit4L) := ⟨_, _, rfl, rfl⟩
theorem Encoding.bit4MemHL : Encoding.Statement (.bit4MemHL) := ⟨_, _, rfl, rfl⟩
theorem Encoding.bit4A : Encoding.Statement (.bit4A) := ⟨_, _, rfl, rfl⟩
theorem Encoding.bit5B : Encoding.Statement (.bit5B) := ⟨_, _, rfl, rfl⟩
theorem Encoding.bit5C : Encoding.Statement (.bit5C) := ⟨_, _, rfl, rfl⟩
theorem Encoding.bit5D : Encoding.Statement (.bit5D) := ⟨_, _, rfl, rfl⟩
theorem Encoding.bit5E : Encoding.Statement (.bit5E) := ⟨_, _, rfl, rfl⟩
theorem Encoding.bit5H : Encoding.Statement (.bit5H) := ⟨_, _, rfl, rfl⟩
theorem Encoding.bit5L : Encoding.Statement (.bit5L) := ⟨_, _, rfl, rfl⟩
theorem Encoding.bit5MemHL : Encoding.Statement (.bit5MemHL) := ⟨_, _, rfl, rfl⟩
theorem Encoding.bit5A : Encoding.Statement (.bit5A) := ⟨_, _, rfl, rfl⟩
theorem Encoding.bit6B : Encoding.Statement (.bit6B) := ⟨_, _, rfl, rfl⟩
theorem Encoding.bit6C : Encoding.Statement (.bit6C) := ⟨_, _, rfl, rfl⟩
theorem Encoding.bit6D : Encoding.Statement (.bit6D) := ⟨_, _, rfl, rfl⟩
theorem Encoding.bit6E : Encoding.Statement (.bit6E) := ⟨_, _, rfl, rfl⟩
theorem Encoding.bit6H : Encoding.Statement (.bit6H) := ⟨_, _, rfl, rfl⟩
theorem Encoding.bit6L : Encoding.Statement (.bit6L) := ⟨_, _, rfl, rfl⟩
theorem Encoding.bit6MemHL : Encoding.Statement (.bit6MemHL) := ⟨_, _, rfl, rfl⟩
theorem Encoding.bit6A : Encoding.Statement (.bit6A) := ⟨_, _, rfl, rfl⟩
theorem Encoding.bit7B : Encoding.Statement (.bit7B) := ⟨_, _, rfl, rfl⟩
theorem Encoding.bit7C : Encoding.Statement (.bit7C) := ⟨_, _, rfl, rfl⟩
theorem Encoding.bit7D : Encoding.Statement (.bit7D) := ⟨_, _, rfl, rfl⟩
theorem Encoding.bit7E : Encoding.Statement (.bit7E) := ⟨_, _, rfl, rfl⟩
theorem Encoding.bit7H : Encoding.Statement (.bit7H) := ⟨_, _, rfl, rfl⟩
theorem Encoding.bit7L : Encoding.Statement (.bit7L) := ⟨_, _, rfl, rfl⟩
theorem Encoding.bit7MemHL : Encoding.Statement (.bit7MemHL) := ⟨_, _, rfl, rfl⟩
theorem Encoding.bit7A : Encoding.Statement (.bit7A) := ⟨_, _, rfl, rfl⟩
theorem Encoding.res0B : Encoding.Statement (.res0B) := ⟨_, _, rfl, rfl⟩
theorem Encoding.res0C : Encoding.Statement (.res0C) := ⟨_, _, rfl, rfl⟩
theorem Encoding.res0D : Encoding.Statement (.res0D) := ⟨_, _, rfl, rfl⟩
theorem Encoding.res0E : Encoding.Statement (.res0E) := ⟨_, _, rfl, rfl⟩
theorem Encoding.res0H : Encoding.Statement (.res0H) := ⟨_, _, rfl, rfl⟩
theorem Encoding.res0L : Encoding.Statement (.res0L) := ⟨_, _, rfl, rfl⟩
theorem Encoding.res0MemHL : Encoding.Statement (.res0MemHL) := ⟨_, _, rfl, rfl⟩
theorem Encoding.res0A : Encoding.Statement (.res0A) := ⟨_, _, rfl, rfl⟩
theorem Encoding.res1B : Encoding.Statement (.res1B) := ⟨_, _, rfl, rfl⟩
theorem Encoding.res1C : Encoding.Statement (.res1C) := ⟨_, _, rfl, rfl⟩
theorem Encoding.res1D : Encoding.Statement (.res1D) := ⟨_, _, rfl, rfl⟩
theorem Encoding.res1E : Encoding.Statement (.res1E) := ⟨_, _, rfl, rfl⟩
theorem Encoding.res1H : Encoding.Statement (.res1H) := ⟨_, _, rfl, rfl⟩
theorem Encoding.res1L : Encoding.Statement (.res1L) := ⟨_, _, rfl, rfl⟩
theorem Encoding.res1MemHL : Encoding.Statement (.res1MemHL) := ⟨_, _, rfl, rfl⟩
theorem Encoding.res1A : Encoding.Statement (.res1A) := ⟨_, _, rfl, rfl⟩
theorem Encoding.res2B : Encoding.Statement (.res2B) := ⟨_, _, rfl, rfl⟩
theorem Encoding.res2C : Encoding.Statement (.res2C) := ⟨_, _, rfl, rfl⟩
theorem Encoding.res2D : Encoding.Statement (.res2D) := ⟨_, _, rfl, rfl⟩
theorem Encoding.res2E : Encoding.Statement (.res2E) := ⟨_, _, rfl, rfl⟩
theorem Encoding.res2H : Encoding.Statement (.res2H) := ⟨_, _, rfl, rfl⟩
theorem Encoding.res2L : Encoding.Statement (.res2L) := ⟨_, _, rfl, rfl⟩
theorem Encoding.res2MemHL : Encoding.Statement (.res2MemHL) := ⟨_, _, rfl, rfl⟩
theorem Encoding.res2A : Encoding.Statement (.res2A) := ⟨_, _, rfl, rfl⟩
theorem Encoding.res3B : Encoding.Statement (.res3B) := ⟨_, _, rfl, rfl⟩
theorem Encoding.res3C : Encoding.Statement (.res3C) := ⟨_, _, rfl, rfl⟩
theorem Encoding.res3D : Encoding.Statement (.res3D) := ⟨_, _, rfl, rfl⟩
theorem Encoding.res3E : Encoding.Statement (.res3E) := ⟨_, _, rfl, rfl⟩
theorem Encoding.res3H : Encoding.Statement (.res3H) := ⟨_, _, rfl, rfl⟩
theorem Encoding.res3L : Encoding.Statement (.res3L) := ⟨_, _, rfl, rfl⟩
theorem Encoding.res3MemHL : Encoding.Statement (.res3MemHL) := ⟨_, _, rfl, rfl⟩
theorem Encoding.res3A : Encoding.Statement (.res3A) := ⟨_, _, rfl, rfl⟩
theorem Encoding.res4B : Encoding.Statement (.res4B) := ⟨_, _, rfl, rfl⟩
theorem Encoding.res4C : Encoding.Statement (.res4C) := ⟨_, _, rfl, rfl⟩
theorem Encoding.res4D : Encoding.Statement (.res4D) := ⟨_, _, rfl, rfl⟩
theorem Encoding.res4E : Encoding.Statement (.res4E) := ⟨_, _, rfl, rfl⟩
theorem Encoding.res4H : Encoding.Statement (.res4H) := ⟨_, _, rfl, rfl⟩
theorem Encoding.res4L : Encoding.Statement (.res4L) := ⟨_, _, rfl, rfl⟩
theorem Encoding.res4MemHL : Encoding.Statement (.res4MemHL) := ⟨_, _, rfl, rfl⟩
theorem Encoding.res4A : Encoding.Statement (.res4A) := ⟨_, _, rfl, rfl⟩
theorem Encoding.res5B : Encoding.Statement (.res5B) := ⟨_, _, rfl, rfl⟩
theorem Encoding.res5C : Encoding.Statement (.res5C) := ⟨_, _, rfl, rfl⟩
theorem Encoding.res5D : Encoding.Statement (.res5D) := ⟨_, _, rfl, rfl⟩
theorem Encoding.res5E : Encoding.Statement (.res5E) := ⟨_, _, rfl, rfl⟩
theorem Encoding.res5H : Encoding.Statement (.res5H) := ⟨_, _, rfl, rfl⟩
theorem Encoding.res5L : Encoding.Statement (.res5L) := ⟨_, _, rfl, rfl⟩
theorem Encoding.res5MemHL : Encoding.Statement (.res5MemHL) := ⟨_, _, rfl, rfl⟩
theorem Encoding.res5A : Encoding.Statement (.res5A) := ⟨_, _, rfl, rfl⟩
theorem Encoding.res6B : Encoding.Statement (.res6B) := ⟨_, _, rfl, rfl⟩
theorem Encoding.res6C : Encoding.Statement (.res6C) := ⟨_, _, rfl, rfl⟩
theorem Encoding.res6D : Encoding.Statement (.res6D) := ⟨_, _, rfl, rfl⟩
theorem Encoding.res6E : Encoding.Statement (.res6E) := ⟨_, _, rfl, rfl⟩
theorem Encoding.res6H : Encoding.Statement (.res6H) := ⟨_, _, rfl, rfl⟩
theorem Encoding.res6L : Encoding.Statement (.res6L) := ⟨_, _, rfl, rfl⟩
theorem Encoding.res6MemHL : Encoding.Statement (.res6MemHL) := ⟨_, _, rfl, rfl⟩
theorem Encoding.res6A : Encoding.Statement (.res6A) := ⟨_, _, rfl, rfl⟩
theorem Encoding.res7B : Encoding.Statement (.res7B) := ⟨_, _, rfl, rfl⟩
theorem Encoding.res7C : Encoding.Statement (.res7C) := ⟨_, _, rfl, rfl⟩
theorem Encoding.res7D : Encoding.Statement (.res7D) := ⟨_, _, rfl, rfl⟩
theorem Encoding.res7E : Encoding.Statement (.res7E) := ⟨_, _, rfl, rfl⟩
theorem Encoding.res7H : Encoding.Statement (.res7H) := ⟨_, _, rfl, rfl⟩
theorem Encoding.res7L : Encoding.Statement (.res7L) := ⟨_, _, rfl, rfl⟩
theorem Encoding.res7MemHL : Encoding.Statement (.res7MemHL) := ⟨_, _, rfl, rfl⟩
theorem Encoding.res7A : Encoding.Statement (.res7A) := ⟨_, _, rfl, rfl⟩
theorem Encoding.set0B : Encoding.Statement (.set0B) := ⟨_, _, rfl, rfl⟩
theorem Encoding.set0C : Encoding.Statement (.set0C) := ⟨_, _, rfl, rfl⟩
theorem Encoding.set0D : Encoding.Statement (.set0D) := ⟨_, _, rfl, rfl⟩
theorem Encoding.set0E : Encoding.Statement (.set0E) := ⟨_, _, rfl, rfl⟩
theorem Encoding.set0H : Encoding.Statement (.set0H) := ⟨_, _, rfl, rfl⟩
theorem Encoding.set0L : Encoding.Statement (.set0L) := ⟨_, _, rfl, rfl⟩
theorem Encoding.set0MemHL : Encoding.Statement (.set0MemHL) := ⟨_, _, rfl, rfl⟩
theorem Encoding.set0A : Encoding.Statement (.set0A) := ⟨_, _, rfl, rfl⟩
theorem Encoding.set1B : Encoding.Statement (.set1B) := ⟨_, _, rfl, rfl⟩
theorem Encoding.set1C : Encoding.Statement (.set1C) := ⟨_, _, rfl, rfl⟩
theorem Encoding.set1D : Encoding.Statement (.set1D) := ⟨_, _, rfl, rfl⟩
theorem Encoding.set1E : Encoding.Statement (.set1E) := ⟨_, _, rfl, rfl⟩
theorem Encoding.set1H : Encoding.Statement (.set1H) := ⟨_, _, rfl, rfl⟩
theorem Encoding.set1L : Encoding.Statement (.set1L) := ⟨_, _, rfl, rfl⟩
theorem Encoding.set1MemHL : Encoding.Statement (.set1MemHL) := ⟨_, _, rfl, rfl⟩
theorem Encoding.set1A : Encoding.Statement (.set1A) := ⟨_, _, rfl, rfl⟩
theorem Encoding.set2B : Encoding.Statement (.set2B) := ⟨_, _, rfl, rfl⟩
theorem Encoding.set2C : Encoding.Statement (.set2C) := ⟨_, _, rfl, rfl⟩
theorem Encoding.set2D : Encoding.Statement (.set2D) := ⟨_, _, rfl, rfl⟩
theorem Encoding.set2E : Encoding.Statement (.set2E) := ⟨_, _, rfl, rfl⟩
theorem Encoding.set2H : Encoding.Statement (.set2H) := ⟨_, _, rfl, rfl⟩
theorem Encoding.set2L : Encoding.Statement (.set2L) := ⟨_, _, rfl, rfl⟩
theorem Encoding.set2MemHL : Encoding.Statement (.set2MemHL) := ⟨_, _, rfl, rfl⟩
theorem Encoding.set2A : Encoding.Statement (.set2A) := ⟨_, _, rfl, rfl⟩
theorem Encoding.set3B : Encoding.Statement (.set3B) := ⟨_, _, rfl, rfl⟩
theorem Encoding.set3C : Encoding.Statement (.set3C) := ⟨_, _, rfl, rfl⟩
theorem Encoding.set3D : Encoding.Statement (.set3D) := ⟨_, _, rfl, rfl⟩
theorem Encoding.set3E : Encoding.Statement (.set3E) := ⟨_, _, rfl, rfl⟩
theorem Encoding.set3H : Encoding.Statement (.set3H) := ⟨_, _, rfl, rfl⟩
theorem Encoding.set3L : Encoding.Statement (.set3L) := ⟨_, _, rfl, rfl⟩
theorem Encoding.set3MemHL : Encoding.Statement (.set3MemHL) := ⟨_, _, rfl, rfl⟩
theorem Encoding.set3A : Encoding.Statement (.set3A) := ⟨_, _, rfl, rfl⟩
theorem Encoding.set4B : Encoding.Statement (.set4B) := ⟨_, _, rfl, rfl⟩
theorem Encoding.set4C : Encoding.Statement (.set4C) := ⟨_, _, rfl, rfl⟩
theorem Encoding.set4D : Encoding.Statement (.set4D) := ⟨_, _, rfl, rfl⟩
theorem Encoding.set4E : Encoding.Statement (.set4E) := ⟨_, _, rfl, rfl⟩
theorem Encoding.set4H : Encoding.Statement (.set4H) := ⟨_, _, rfl, rfl⟩
theorem Encoding.set4L : Encoding.Statement (.set4L) := ⟨_, _, rfl, rfl⟩
theorem Encoding.set4MemHL : Encoding.Statement (.set4MemHL) := ⟨_, _, rfl, rfl⟩
theorem Encoding.set4A : Encoding.Statement (.set4A) := ⟨_, _, rfl, rfl⟩
theorem Encoding.set5B : Encoding.Statement (.set5B) := ⟨_, _, rfl, rfl⟩
theorem Encoding.set5C : Encoding.Statement (.set5C) := ⟨_, _, rfl, rfl⟩
theorem Encoding.set5D : Encoding.Statement (.set5D) := ⟨_, _, rfl, rfl⟩
theorem Encoding.set5E : Encoding.Statement (.set5E) := ⟨_, _, rfl, rfl⟩
theorem Encoding.set5H : Encoding.Statement (.set5H) := ⟨_, _, rfl, rfl⟩
theorem Encoding.set5L : Encoding.Statement (.set5L) := ⟨_, _, rfl, rfl⟩
theorem Encoding.set5MemHL : Encoding.Statement (.set5MemHL) := ⟨_, _, rfl, rfl⟩
theorem Encoding.set5A : Encoding.Statement (.set5A) := ⟨_, _, rfl, rfl⟩
theorem Encoding.set6B : Encoding.Statement (.set6B) := ⟨_, _, rfl, rfl⟩
theorem Encoding.set6C : Encoding.Statement (.set6C) := ⟨_, _, rfl, rfl⟩
theorem Encoding.set6D : Encoding.Statement (.set6D) := ⟨_, _, rfl, rfl⟩
theorem Encoding.set6E : Encoding.Statement (.set6E) := ⟨_, _, rfl, rfl⟩
theorem Encoding.set6H : Encoding.Statement (.set6H) := ⟨_, _, rfl, rfl⟩
theorem Encoding.set6L : Encoding.Statement (.set6L) := ⟨_, _, rfl, rfl⟩
theorem Encoding.set6MemHL : Encoding.Statement (.set6MemHL) := ⟨_, _, rfl, rfl⟩
theorem Encoding.set6A : Encoding.Statement (.set6A) := ⟨_, _, rfl, rfl⟩
theorem Encoding.set7B : Encoding.Statement (.set7B) := ⟨_, _, rfl, rfl⟩
theorem Encoding.set7C : Encoding.Statement (.set7C) := ⟨_, _, rfl, rfl⟩
theorem Encoding.set7D : Encoding.Statement (.set7D) := ⟨_, _, rfl, rfl⟩
theorem Encoding.set7E : Encoding.Statement (.set7E) := ⟨_, _, rfl, rfl⟩
theorem Encoding.set7H : Encoding.Statement (.set7H) := ⟨_, _, rfl, rfl⟩
theorem Encoding.set7L : Encoding.Statement (.set7L) := ⟨_, _, rfl, rfl⟩
theorem Encoding.set7MemHL : Encoding.Statement (.set7MemHL) := ⟨_, _, rfl, rfl⟩
theorem Encoding.set7A : Encoding.Statement (.set7A) := ⟨_, _, rfl, rfl⟩

end Sys2Proof.Laws
end

