-- ==== Sys2Proof/Tests/Slice0.lean ====
section
/-! SUPPORT. The model's own tests: the ill-formed term, words written out from the encodings of the spec, single steps
with the results the spec's rules and vectors give (`Example` lines of the instruction rules, 95_test_vectors.md), and
for every statement with hypotheses a state and operands that meet them. -/

-- One thread: each of these checks waits for the kernel, and many waiting at once would ask for a stack each.
set_option Elab.async false

namespace Sys2Proof.Tests

open Sys2Proof.Machine

/-! ## Small states -/

/-- The CPU's registers after reset. -/
def cpu0 : Cpu := State.reset.cpu

/-- A `Dmg` block with the boot ROM unmapped, the LCD off and these bytes at C000, where PC stands. -/
def prog (bytes : List Byte) (c : Cpu) : State :=
  { State.reset with bootMapped := false, cpu := { c with pc := 0xC000 }, wram := Memory.ofBytes 0 bytes }

/-- The same block as a `Cgb`. -/
def asCgb (s : State) : State := { s with params := { s.params with model := .cgb } }

/-- The state a result gives. -/
def ended : Result → State
  | .next t => t
  | .fault _ => State.reset
  | .refused _ => State.reset

/-- The result is a next state. -/
def isNext : Result → Bool
  | .next _ => true
  | .fault _ => false
  | .refused _ => false

/-- One step of these bytes from these registers. -/
def run (bytes : List Byte) (c : Cpu) : State := ended (step (prog bytes c))

theorem next_of_isNext {r : Result} (h : isNext r = true) : ∃ t, r = .next t := by
  cases r with
  | next t => exact ⟨t, rfl⟩
  | fault f => cases h
  | refused f => cases h

/-! ## Well-formedness -/

theorem test_prefix_row_is_ill_formed : ¬ WellFormed (.prefixCB 0x37) := by decide
theorem test_illegal_row_is_well_formed : WellFormed .illegalD3 := by decide

/-! ## Decoding: words written out from the encodings (30_encoding.md R142 to R155 and the rules of each family) -/

theorem test_decode_ld_r_r : decode [0b01111000] = .ok (.ldAB, []) := by rfl
theorem test_decode_ld_r_n : decode [0b00000110, 0x7F] = .ok (.ldBn 0x7F, []) := by rfl
theorem test_decode_ld_r_mem : decode [0b01000110] = .ok (.ldBMemHL, []) := by rfl
theorem test_decode_ld_mem_r : decode [0b01110111] = .ok (.ldMemHLA, []) := by rfl
theorem test_decode_ld_mem_n : decode [0b00110110, 0x7F] = .ok (.ldMemHLn 0x7F, []) := by rfl
theorem test_decode_ld_a_bc : decode [0b00001010] = .ok (.ldAMemBC, []) := by rfl
theorem test_decode_ld_de_a : decode [0b00010010] = .ok (.ldMemDEA, []) := by rfl
theorem test_decode_ld_a_nn : decode [0b11111010, 0x44, 0xFF] = .ok (.ldAMemNn 0xFF44, []) := by rfl
theorem test_decode_ldh_n_a : decode [0b11100000, 0x46] = .ok (.ldhMemNA 0x46, []) := by rfl
theorem test_decode_ldh_a_c : decode [0b11110010] = .ok (.ldhAMemC, []) := by rfl
theorem test_decode_ld_hl_inc_a : decode [0b00100010] = .ok (.ldMemHLIncA, []) := by rfl
theorem test_decode_ld_a_hl_dec : decode [0b00111010] = .ok (.ldAMemHLDec, []) := by rfl
theorem test_decode_ld_rr_nn : decode [0b00110001, 0xFE, 0xFF] = .ok (.ldSPnn 0xFFFE, []) := by rfl
theorem test_decode_ld_nn_sp : decode [0b00001000, 0x00, 0xC1] = .ok (.ldMemNnSP 0xC100, []) := by rfl
theorem test_decode_push : decode [0b11110101] = .ok (.pushAF, []) := by rfl
theorem test_decode_pop : decode [0b11000001] = .ok (.popBC, []) := by rfl
theorem test_decode_ld_hl_sp_e : decode [0b11111000, 0xFE] = .ok (.ldHLSPe 0xFE, []) := by rfl
theorem test_decode_alu_r : decode [0b10011100] = .ok (.sbcAH, []) := by rfl
theorem test_decode_alu_mem : decode [0b10101110] = .ok (.xorMemHL, []) := by rfl
theorem test_decode_alu_n : decode [0b11111110, 0x3C] = .ok (.cpn 0x3C, []) := by rfl
theorem test_decode_inc_r : decode [0b00111100] = .ok (.incA, []) := by rfl
theorem test_decode_dec_mem : decode [0b00110101] = .ok (.decMemHL, []) := by rfl
theorem test_decode_daa : decode [0b00100111] = .ok (.daa, []) := by rfl
theorem test_decode_add_hl : decode [0b00011001] = .ok (.addHLDE, []) := by rfl
theorem test_decode_dec_rr : decode [0b00001011] = .ok (.decBC, []) := by rfl
theorem test_decode_add_sp : decode [0b11101000, 0x02] = .ok (.addSPe 0x02, []) := by rfl
theorem test_decode_rra : decode [0b00011111] = .ok (.rra, []) := by rfl
theorem test_decode_cb_rot : decode [0xCB, 0b00101111] = .ok (.sraA, []) := by rfl
theorem test_decode_cb_bit : decode [0xCB, 0b01111111] = .ok (.bit7A, []) := by rfl
theorem test_decode_cb_res : decode [0xCB, 0b10011110] = .ok (.res3MemHL, []) := by rfl
theorem test_decode_cb_set : decode [0xCB, 0b11011111] = .ok (.set3A, []) := by rfl
theorem test_decode_jp : decode [0b11000011, 0x50, 0x01] = .ok (.jpnn 0x0150, []) := by rfl
theorem test_decode_jr_cc : decode [0b00100000, 0xFC] = .ok (.jrNZe 0xFC, []) := by rfl
theorem test_decode_call_cc : decode [0b11011100, 0x00, 0x02] = .ok (.callCnn 0x0200, []) := by rfl
theorem test_decode_ret_cc : decode [0b11001000] = .ok (.retZ, []) := by rfl
theorem test_decode_rst : decode [0b11101111] = .ok (.rst28, []) := by rfl
theorem test_decode_reti : decode [0b11011001] = .ok (.reti, []) := by rfl
theorem test_decode_halt : decode [0b01110110] = .ok (.halt, []) := by rfl
theorem test_decode_stop : decode [0b00010000] = .ok (.stop, []) := by rfl
theorem test_decode_ei : decode [0b11111011] = .ok (.ei, []) := by rfl
theorem test_decode_illegal : decode [0b11011101] = .ok (.illegalDD, []) := by rfl
theorem test_decode_too_short : decode [0b11000011, 0x50] = .error (.truncated 0xC3) := by rfl

/-! ## One step each: the `Example` lines of the instruction rules -/

/-- R173: the load goes through HL. -/
theorem test_ld_b_mem : (run [0x46, 0x5A] { cpu0 with h := 0xC0, l := 0x01 }).cpu.b = 0x5A := by decide +kernel

/-- R185: the store is at the old HL, which wraps at FFFF; IE is at FFFF. -/
theorem test_ldi_wraps :
    let t := run [0x22] { cpu0 with a := 0x11, h := 0xFF, l := 0xFF }
    t.cpu.hl = 0x0000 ∧ t.irq.ie = 0x11 := by decide +kernel

/-- R201: low byte first. -/
theorem test_ld_nn_sp :
    let t := run [0x08, 0x00, 0xC1] { cpu0 with sp := 0xDFF0 }
    t.wram.read 0x100 = 0xF0 ∧ t.wram.read 0x101 = 0xDF := by decide +kernel

/-- R203: `BC = 0x1234` pushed from FFFE. -/
theorem test_push_bc :
    let t := run [0xC5] { cpu0 with b := 0x12, c := 0x34, sp := 0xFFFE }
    t.hram.read 0x7D = 0x12 ∧ t.hram.read 0x7C = 0x34 ∧ t.cpu.sp = 0xFFFC := by decide +kernel

/-- R204: bits 3..0 of the byte popped into F are dropped. -/
theorem test_pop_af :
    let t := run [0xF1, 0xFF, 0x12] { cpu0 with sp := 0xC001 }
    t.cpu.a = 0x12 ∧ t.cpu.f.toByte = 0xF0 := by decide +kernel

/-- R205: `SP = 0x0001`, `e = 0xFF`: Z is 0 though the result is 0. -/
theorem test_ld_hl_sp_e :
    let t := run [0xF8, 0xFF] { cpu0 with sp := 0x0001 }
    t.cpu.hl = 0x0000 ∧ t.cpu.f.toByte = 0x30 := by decide +kernel

/-- R211: `0x3A + 0xC6`. -/
theorem test_add_b :
    let t := run [0x80] { cpu0 with a := 0x3A, b := 0xC6 }
    t.cpu.a = 0x00 ∧ t.cpu.f.toByte = 0xB0 := by decide +kernel

/-- R214: the carry in makes both carries. -/
theorem test_adc_carries :
    let t := run [0x88] { cpu0 with a := 0xFF, b := 0x00, f := Flags.ofByte 0x10 }
    t.cpu.a = 0x00 ∧ t.cpu.f.toByte = 0xB0 := by decide +kernel

/-- R220: `d = −256`. -/
theorem test_sbc_borrows :
    let t := run [0x98] { cpu0 with a := 0x00, b := 0xFF, f := Flags.ofByte 0x10 }
    t.cpu.a = 0x00 ∧ t.cpu.f.toByte = 0xF0 := by decide +kernel

/-- R225: `AND` sets H. -/
theorem test_and_n :
    let t := run [0xE6, 0x38] { cpu0 with a := 0x5A }
    t.cpu.a = 0x18 ∧ t.cpu.f.toByte = 0x20 := by decide +kernel

/-- R232: `CP` leaves A. -/
theorem test_cp_b :
    let t := run [0xB8] { cpu0 with a := 0x3C, b := 0x2F }
    t.cpu.a = 0x3C ∧ t.cpu.f.toByte = 0x60 := by decide +kernel

/-- R235: C is not changed. -/
theorem test_inc_a_wraps :
    let t := run [0x3C] { cpu0 with a := 0xFF, f := Flags.ofByte 0x10 }
    t.cpu.a = 0x00 ∧ t.cpu.f.toByte = 0xB0 := by decide +kernel

/-- R238: byte `0x00` becomes `0xFF`. -/
theorem test_dec_mem :
    let t := run [0x35, 0x00] { cpu0 with h := 0xC0, l := 0x01 }
    t.wram.read 1 = 0xFF ∧ t.cpu.f.toByte = 0x60 := by decide +kernel

/-- R239: an input that is not decimal, after a subtraction. -/
theorem test_daa_subtract :
    let t := run [0x27] { cpu0 with a := 0x00, f := Flags.ofByte 0x70 }
    t.cpu.a = 0x9A ∧ t.cpu.f.toByte = 0x50 := by decide +kernel

/-- R239: after an addition. -/
theorem test_daa_add :
    let t := run [0x27] { cpu0 with a := 0x9A }
    t.cpu.a = 0x00 ∧ t.cpu.f.toByte = 0x90 := by decide +kernel

/-- R250: the half carry is out of bit 11. -/
theorem test_add_hl_bc :
    let t := run [0x09] { cpu0 with h := 0x8A, l := 0x23, b := 0x06, c := 0x05 }
    t.cpu.hl = 0x9028 ∧ t.cpu.f.toByte = 0x20 := by decide +kernel

/-- R253: the flags are those of the unsigned low-byte addition. -/
theorem test_add_sp_negative :
    let t := run [0xE8, 0xFE] { cpu0 with sp := 0xFFFA }
    t.cpu.sp = 0xFFF8 ∧ t.cpu.f.toByte = 0x30 := by decide +kernel

/-- R263: through the carry, Z cleared. -/
theorem test_rla :
    let t := run [0x17] { cpu0 with a := 0x80 }
    t.cpu.a = 0x00 ∧ t.cpu.f.toByte = 0x10 := by decide +kernel

/-- R275: bit 7 is kept. -/
theorem test_sra_a :
    let t := run [0xCB, 0x2F] { cpu0 with a := 0x8A }
    t.cpu.a = 0xC5 ∧ t.cpu.f.toByte = 0x00 := by decide +kernel

/-- R277: the nibbles change places. -/
theorem test_swap_a : (run [0xCB, 0x37] { cpu0 with a := 0xF1 }).cpu.a = 0x1F := by decide +kernel

/-- R282: a bit that is 0 sets Z, C stays. -/
theorem test_bit_mem :
    let t := run [0xCB, 0x46, 0xFE] { cpu0 with h := 0xC0, l := 0x02, f := Flags.ofByte 0x10 }
    t.cpu.f.toByte = 0xB0 ∧ t.trace.length = 3 := by decide +kernel

/-- R284: `RES 3,(HL)` of `0xFF`. -/
theorem test_res_mem :
    (run [0xCB, 0x9E, 0xFF] { cpu0 with h := 0xC0, l := 0x02 }).wram.read 2 = 0xF7 := by decide +kernel

/-- R305: not taken two M-cycles, taken three, backwards. -/
theorem test_jr_nz :
    (run [0x20, 0xFC] cpu0).cpu.pc = 0xBFFE ∧ (run [0x20, 0xFC] cpu0).trace.length = 3 ∧
    (run [0x20, 0xFC] { cpu0 with f := Flags.ofByte 0x80 }).cpu.pc = 0xC002 := by decide +kernel

/-- R306: the address after the call is pushed. -/
theorem test_call :
    let t := run [0xCD, 0x00, 0x02] { cpu0 with sp := 0xFFFE }
    t.cpu.pc = 0x0200 ∧ t.hram.read 0x7D = 0xC0 ∧ t.hram.read 0x7C = 0x03 := by decide +kernel

/-- R309: five M-cycles when taken. -/
theorem test_ret_z :
    let t := run [0xC8, 0x53, 0x01] { cpu0 with sp := 0xC001, f := Flags.ofByte 0x80 }
    t.cpu.pc = 0x0153 ∧ t.trace.length = 5 := by decide +kernel

/-- R311: `IME` is enabled at once. -/
theorem test_reti :
    let t := run [0xD9, 0x53, 0x01] { cpu0 with sp := 0xC001 }
    t.cpu.pc = 0x0153 ∧ t.cpu.ime = .enabled := by decide +kernel

/-- R321 (a): with a request pending and `IME` enabled the halt ends in the same step, in a dispatch to `0x0050`. -/
theorem test_halt_dispatches :
    let t := ended (step { prog [0x76] { cpu0 with sp := 0xFFFE, ime := .enabled } with
      irq := { ie := 0x04, flags := 0b00100, req := 0 } })
    t.cpu.halted = false ∧ t.cpu.pc = 0x0050 ∧ t.irq.flags = 0 ∧ t.hram.read 0x7C = 0x01 := by decide +kernel

/-- R322: `STOP` does nothing on `Dmg`. -/
theorem test_stop_dmg : (run [0x10] cpu0).cpu.pc = 0xC001 ∧ (run [0x10] cpu0).trace.length = 1 := by decide +kernel

/-- R324: after `EI` the request waits for the next instruction. -/
theorem test_ei_waits :
    let t := ended (step { prog [0xFB, 0x00] cpu0 with irq := { ie := 0x01, flags := 0b00001, req := 0 } })
    t.cpu.pc = 0xC001 ∧ t.cpu.ime = .pending := by decide +kernel

/-- R325: one instruction of two bytes. -/
theorem test_prefix_cb :
    (ended (exec (.prefixCB 0x37) (prog [] { cpu0 with a := 0xF1 }))).cpu.a = 0x1F := by decide +kernel

/-- R326: the step faults. -/
theorem test_illegal_faults : step (prog [0xD3] cpu0) = .fault (.illegalOpcode 0xD3) := by rfl

/-- R326, its example: the opcode's fetch has happened, one M-cycle and PC past the byte. -/
theorem test_illegal_has_fetched :
    (prog [0xDD] cpu0).afterStep.cpu.pc = 0xC001 ∧ (prog [0xDD] cpu0).afterStep.mcycles = 1 := by decide +kernel

/-- R353: the push of PC to FFFF clears `IE`, the step faults, and both bytes were pushed. -/
theorem test_vanished_has_pushed :
    let s : State := { prog [0x00] { cpu0 with ime := .enabled } with irq := { ie := 0x01, flags := 0b00001, req := 0 } }
    isNext (step s) = false ∧ s.afterStep.cpu.sp = 0xFFFE ∧ s.afterStep.hram.read 0x7E = 0x01 := by decide +kernel

/-- The caller's part of a post-boot launch, at the place the spec's test vectors use (R583). -/
def vectorArgs : PostBootArgs :=
  { obp0 := 0xFF, obp1 := 0xFF, counter := 0xAB00, ly := 0, mode := .oamScan, dot := 0, pipe := Pipeline.quiet }

/-- R580, R582: a `Cgb` loaded without a boot ROM comes back post-boot, also out of a fault. -/
theorem test_reset_applies_loaded_form :
    let s := (asCgb { prog [0xDD] cpu0 with params := { State.reset.params with resetForm := .postBoot } }).afterStep
    let t := s.hostReset Launch.default vectorArgs
    t.cpu.pc = 0x0100 ∧ t.cpu.a = 0x11 ∧ t.bootMapped = false ∧ t.params.resetForm = .postBoot := by decide +kernel

/-- R602, C12: at 17,556 M-cycles the budget ends a frame with the LCD off, and not with it on. -/
theorem test_frame_budget :
    let s (lcdc : Byte) (n : Nat) : State := { State.reset with mcycles := n, ppu := { Ppu.powerOn with lcdc := lcdc } }
    (s 0x00 17556).frameEnds 0 0 = true ∧ (s 0x00 17555).frameEnds 0 0 = false ∧ (s 0x80 17556).frameEnds 0 0 = false ∧
    (asCgb { s 0x00 17556 with doubleSpeed := true }).frameEnds 0 0 = false := by decide

/-- R602: the step in which LY becomes 144 ends the frame. -/
theorem test_frame_done_ends_frame :
    (runFrame 1 { prog [0x00] cpu0 with
      ppu := { Ppu.powerOn with lcdc := 0x80, ly := 143, dot := 452, mode := .hblank } }).isSome = true ∧
    (runFrame 1 (prog [0x00] cpu0)).isSome = false := by decide +kernel

/-- The first step after reset runs the word placed for it, also one of the CB table, whose first byte is the low one. -/
theorem test_first_step_runs_the_word :
    (ended (step (State.reset.withFetchWord 16 0x7F06))).cpu.b = 0x7F ∧
    (ended (step (State.reset.withFetchWord 16 0xDFCB))).cpu.a = 0x08 ∧
    decodeTableWord 16 0xDFCB = some .set3A ∧ decodeTableWord 8 0xC3 = some (.jpnn 0) := by decide +kernel

/-! ## The hypotheses of the statements can be met -/

theorem meets_DecodeOfEncode : WellFormed (.callNZnn 0xFFFF) ∧ WellFormed .illegalFD := by decide

theorem meets_EncodeOfDecode : decode [0xCB, 0xFF, 0x01] = .ok (.set7A, [0x01]) := by rfl

/-- One, two and three bytes, and the halt bug. -/
theorem meets_StepRunsDecoded :
    let s := prog [0x3E, 0x42] cpu0
    let f := s.beginStep.fetchOpcode
    let u := prog [0xC3, 0x50, 0x01] { cpu0 with haltBugPending := true }
    let k := u.beginStep.fetchOpcode
    s.cpu.halted = false ∧ s.cpu.haltBugPending = false ∧
    (decode [(prog [0x3C] cpu0).beginStep.fetchOpcode.1]).toOption = some (.incA, []) ∧
    (decode [f.1, f.2.fetch8.1]).toOption = some (.ldAn 0x42, []) ∧ u.cpu.haltBugPending = true ∧
    (decode [k.1, k.2.fetch8.1, k.2.fetch8.2.fetch8.1]).toOption = some (.jpnn 0x50C3, []) := by decide +kernel

theorem meets_IllegalOpcodesFault :
    ((0xFD, .illegalFD) : Byte × Instr) ∈ illegalOpcodes ∧ (prog [0xFD] cpu0).cpu.halted = false ∧
    (prog [0xFD] cpu0).beginStep.memReadValue (prog [0xFD] cpu0).cpu.pc = 0xFD ∧
    (prog [0xFD] cpu0).cpu.haltBugPending = false := by decide +kernel

/-- The largest and the smallest two-digit numbers. -/
theorem meets_DaaAdjusts :
    (99 < 100 ∧ 0 < 100) ∧ ({ cpu0 with a := 0x99 } : Cpu).a = (BitVec.ofNat 8 (16 * (99 / 10 % 10) + 99 % 10) : Byte) ∧
    ({ cpu0 with f := Flags.ofByte 0x40 } : Cpu).f.n = true ∧ cpu0.f.n = false := by decide

/-- A step that runs `EI`, and one that begins `Pending` and stays so. -/
theorem meets_NopDiAndEi :
    let s := prog [0xFB] cpu0
    let u := prog [0x00] { cpu0 with ime := .pending }
    s.cpu.halted = false ∧ s.cpu.ime = .disabled ∧ s.beginStep.fetchOpcode.1 = 0xFB ∧ isNext (step s) = true ∧
    u.cpu.halted = false ∧ isNext (exec u.beginStep.fetchInstr.1 u.beginStep.fetchInstr.2) = true ∧
    (ended (exec u.beginStep.fetchInstr.1 u.beginStep.fetchInstr.2)).cpu.ime = .pending := by decide +kernel

/-- A state in which `HALT` meets its bug, and the reset state, in which it does not. -/
theorem meets_HaltInstruction :
    let s : State := { State.reset with
      params := { State.reset.params with haltBug := true }, irq := { ie := 0x10, flags := 0b10000, req := 0 } }
    s.params.haltBug = true ∧ s.cpu.ime ≠ .enabled ∧ s.irq.ie.setWidth 5 &&& s.irq.flags ≠ 0 ∧
    State.reset.params.haltBug = false := by decide

theorem meets_StopInstruction :
    State.reset.params.model = .dmg ∧ (asCgb State.reset).key1Armed = false ∧
    (asCgb { State.reset with key1Armed := true }).params.model = .cgb ∧
    (asCgb { State.reset with key1Armed := true }).key1Armed = true := by decide

/-- The push of PC to FFFF clears `IE` and nothing is left; the lowest and the highest source. -/
theorem meets_InterruptDispatch :
    let s (c : Cpu) (i : Irq) : State := { State.reset with cpu := c, irq := i }
    let t (s : State) : Irq := (s.idle.idle.push16 s.cpu.pc).irq
    (t (s cpu0 { ie := 0x1F, flags := 0b11111, req := 0 })).ie.setWidth 5 &&&
      (t (s cpu0 { ie := 0x1F, flags := 0b11111, req := 0 })).flags = 0 ∧
    (t (s { cpu0 with sp := 0xFFFE } { ie := 0x1F, flags := 0b11111, req := 0 })).ie.getLsbD 0 = true ∧
    (t (s { cpu0 with sp := 0xFFFE } { ie := 0x1F, flags := 0b11111, req := 0 })).flags.getLsbD 0 = true ∧
    (t (s { cpu0 with sp := 0xFFFE } { ie := 0x10, flags := 0b11111, req := 0 })).ie = 0x10 ∧
    (t (s { cpu0 with sp := 0xFFFE } { ie := 0x10, flags := 0b11111, req := 0 })).flags.getLsbD 4 = true := by
  decide +kernel

/-- No request, a request with `IME` enabled, one without, and a halted CPU that nothing can wake. -/
theorem meets_StepEnd :
    let s : State := { State.reset with irq := { ie := 0x01, flags := 0b00001, req := 0 } }
    State.reset.irq.ie.setWidth 5 &&& State.reset.irq.flags = 0 ∧ s.irq.ie.setWidth 5 &&& s.irq.flags ≠ 0 ∧
    s.cpu.ime ≠ .enabled ∧ (s.setIme .enabled).cpu.ime = .enabled ∧ (State.reset.setHalted true).cpu.halted = true ∧
    State.reset.irq.ie.setWidth 5 = (0 : BitVec 5) := by decide

theorem meets_OnlyTheseChangeIme : isNext (exec .nop State.reset) = true ∧ (.nop : Instr) ≠ .ei ∧ (.nop : Instr) ≠ .di ∧
    (.nop : Instr) ≠ .reti ∧ (.nop : Instr) ≠ .halt := by decide

theorem meets_RequestsSettle :
    let s : State := { State.reset with
      timer := { State.reset.timer with reloadPending := true }
      serial := { State.reset.serial with start := true, internal := true }
      joypad := { select := 0b10, prev := 0xF }, buttons := { Buttons.none with up := true } }
    s.timer.reloadPending = true ∧ s.serial.start = true ∧ s.serial.internal = true ∧
    s.joypad.prev &&& ~~~ s.joypad.nibble s.buttons ≠ 0 ∧ State.reset.irq.flags.getLsbD 4 = false := by decide

/-- The last dot of an M-cycle, at either speed, is the one that ends line 143 and makes the line rise; and a dot of the
LCD that is off. -/
theorem meets_RequestsSettle_frame :
    let p (d : Nat) : Ppu :=
      { Ppu.powerOn with lcdc := 0x80, ly := 143, dot := d, mode := .hblank, statEnable := 0b0010 }
    let s (d : Nat) : State := { State.reset with ppu := p d }
    let u := State.ppuDots 3 (s 452).oamDmaStep.timerStep
    let w := State.ppuDots 1 (asCgb { s 454 with doubleSpeed := true }).oamDmaStep.timerStep
    u.ppu.lcdc.getLsbD 7 = true ∧ u.ppu.ly = 143 ∧ u.ppu.dot = 455 ∧ u.ppu.statLine = false ∧
    u.ppuDot.ppu.statLine = true ∧ w.ppu.ly = 143 ∧ w.ppu.dot = 455 ∧ Ppu.powerOn.lcdc.getLsbD 7 = false := by decide +kernel

/-- An instruction, a `STOP` that switches the speed, an interrupt taken. -/
theorem meets_PublishedTimes :
    isNext (exec (.ldAMemNn 0xC000) State.reset) = true ∧ State.reset.params.stopSwallowsOperand = false ∧
    isNext (exec .stop (asCgb { State.reset with key1Armed := true })) = true ∧
    isNext ({ State.reset with
      cpu := { cpu0 with sp := 0xFFFE }, irq := { ie := 0x01, flags := 0b00001, req := 0 } } : State).takeInterrupt = true := by
  refine ⟨by decide +kernel, by decide, rfl, by decide +kernel⟩

theorem meets_FlagsAsPublished : isNext (exec .ccf State.reset) = true := by decide

theorem memoriesOk_reset : State.reset.MemoriesOk := by constructor <;> exact ⟨rfl, rfl⟩
theorem memoriesOk_cgb : (asCgb State.reset).MemoriesOk := by constructor <;> exact ⟨rfl, rfl⟩

theorem quiet_reset : State.reset.DmaQuiet := ⟨rfl, rfl, rfl⟩
theorem quiet_cgb : (asCgb State.reset).DmaQuiet := ⟨rfl, rfl, rfl⟩

/-- The first and the last form of the list, the last also where it switches the speed. -/
theorem meets_FrameWithoutStore :
    State.reset.DmaQuiet ∧ isNext (exec (Instr.ldRegReg .a .b) State.reset) = true ∧ isNext (exec .stop State.reset) = true ∧
    (asCgb { State.reset with key1Armed := true }).DmaQuiet ∧
    isNext (exec .stop (asCgb { State.reset with key1Armed := true })) = true :=
  ⟨quiet_reset, by decide, rfl, ⟨rfl, rfl, rfl⟩, rfl⟩

/-- A plain store, the store at the top of memory, a read-modify-write. -/
theorem meets_FrameOfOneStore :
    State.reset.MemoriesOk ∧ State.reset.DmaQuiet ∧ isNext (exec (.ldMemNnA 0xC000) State.reset) = true ∧
    isNext (exec (.ldhMemNA 0xFF) State.reset) = true ∧ highPage 0xFF = 0xFFFF ∧ isNext (exec .incMemHL State.reset) = true :=
  ⟨memoriesOk_reset, quiet_reset, rfl, rfl, rfl, rfl⟩

/-- A push on `Dmg`; on `Cgb` a first store to HDMA5, and one next to it. -/
theorem meets_FrameOfTwoStores :
    State.reset.MemoriesOk ∧ State.reset.DmaQuiet ∧ isNext (exec .pushBC State.reset) = true ∧
    (asCgb State.reset).MemoriesOk ∧ (asCgb State.reset).DmaQuiet ∧ isNext (exec (.ldMemNnSP 0xFF55) (asCgb State.reset)) = true ∧
    (asCgb State.reset).target 0xFF55 = .io 0x55 ∧ (asCgb State.reset).target 0xFF54 ≠ .io 0x55 :=
  ⟨memoriesOk_reset, quiet_reset, rfl, memoriesOk_cgb, quiet_cgb, rfl, by decide, by decide⟩

/-- Both engines can block, and the edges of what they block: FF0F, FF7F, FF80, FEFF, FF00, 7FFF, 8000, 9FFF, FE00, FE9F,
FEA0. -/
theorem meets_CpuAccessBlocking :
    let dma : State := { State.reset with oamDma := { State.reset.oamDma with status := .active } }
    let draw : State := { State.reset with ppu := { State.reset.ppu with mode := .drawing } }
    let scan : State := { State.reset with ppu := { State.reset.ppu with mode := .oamScan } }
    dma.dmaHidesRead 0xFF0F = false ∧ dma.dmaHidesRead 0xFF0E = true ∧ dma.dmaHidesRead 0xFF7F = true ∧
    dma.dmaHidesRead 0xFF80 = false ∧ dma.dmaDropsWrite 0xFEFF = true ∧ dma.dmaDropsWrite 0xFF00 = false ∧
    draw.ppuBlocks 0x7FFF = false ∧ draw.ppuBlocks 0x8000 = true ∧ draw.ppuBlocks 0x9FFF = true ∧
    draw.ppuBlocks 0xA000 = false ∧ scan.ppuBlocks 0x8000 = false ∧ scan.ppuBlocks 0xFE00 = true ∧
    scan.ppuBlocks 0xFE9F = true ∧ scan.ppuBlocks 0xFEA0 = false := by decide

theorem meets_EchoIsWorkRam : 0xE000 ≤ (0xE000 : Word).toNat ∧ (0xFDFF : Word).toNat ≤ 0xFDFF := by decide

/-- Each RAM's first or last cell. -/
theorem meets_WriteThenRead :
    State.reset.MemoriesOk ∧ State.reset.target 0x8000 = .vram 0 ∧ State.reset.target 0xFDFF = .wram 0x1DFF ∧
    State.reset.target 0xFE9F = .oam 0x9F ∧ State.reset.target 0xFFFE = .hram 0x7E ∧
    State.reset.target 0xC000 ≠ State.reset.target 0xC001 :=
  ⟨memoriesOk_reset, by decide +kernel, by decide +kernel, by decide +kernel, by decide +kernel, by decide +kernel⟩

/-- Both ends of every range of the map: no address is in two; both models, bank 0 of SVBK and another. -/
theorem meets_WriteThenRead_map :
    let s := asCgb { State.reset with svbk := 7, ppu := { Ppu.powerOn with vbk := 1 } }
    s.target 0x8000 = .vram 0x2000 ∧ s.target 0x9FFF = .vram 0x3FFF ∧ s.target 0xA000 = .cart 0xA000 ∧
    s.target 0xBFFF = .cart 0xBFFF ∧ s.target 0xC000 = .wram 0 ∧ s.target 0xCFFF = .wram 0xFFF ∧
    s.target 0xD000 = .wram 0x7000 ∧ s.target 0xDFFF = .wram 0x7FFF ∧ (asCgb State.reset).target 0xD000 = .wram 0x1000 ∧
    State.reset.target 0xDFFF = .wram 0x1FFF ∧ s.target 0xFE00 = .oam 0 ∧ s.target 0xFEA0 = .unusable 0xFEA0 ∧
    s.target 0xFEFF = .unusable 0xFEFF ∧ s.target 0xFF00 = .io 0 ∧ s.target 0xFF80 = .hram 0 ∧ s.target 0xFFFF = .ie := by
  decide +kernel

/-- R66, R78, R52: banks and requests as a program reads them. -/
theorem test_register_reads :
    let s := asCgb { State.reset with
      svbk := 2, ppu := { Ppu.powerOn with vbk := 1 }, irq := { ie := 0xFF, flags := 0b00001, req := 0 } }
    s.rawRead 0xFF70 = 0xFA ∧ s.rawRead 0xFF4F = 0xFF ∧ s.rawRead 0xFF0F = 0xE1 ∧ s.rawRead 0xFFFF = 0xFF ∧
    State.reset.rawRead 0xFF4D = 0xFF ∧ s.rawRead 0xFF4D = 0x7E := by decide +kernel

/-- While mapped, both ends of what the boot ROM shows; a step after it is unmapped. -/
theorem meets_BootOverlay :
    State.reset.bootMapped = true ∧ State.reset.target 0x00FF = .boot 0xFF ∧ State.reset.target 0x0100 = .cart 0x0100 ∧
    (asCgb State.reset).target 0x01FF = .cart 0x01FF ∧ (asCgb State.reset).target 0x0200 = .boot 0x200 ∧
    (asCgb State.reset).target 0x08FF = .boot 0x8FF ∧ (asCgb State.reset).target 0x0900 = .cart 0x0900 ∧
    State.reset.params.model = .dmg ∧ State.reset.target 0x0200 = .cart 0x0200 ∧ State.reset.target 0x7FFF = .cart 0x7FFF ∧
    isNext (step (prog [0x00] cpu0)) = true ∧ (prog [0x00] cpu0).bootMapped = false := by decide +kernel

theorem meets_TimerRate :
    let t : Timer := { counter := 0xFFFF, tima := 0xFF, tma := 0, tac := 0b111, reloadPending := false }
    t.tac.getLsbD 2 = true ∧ t.reloadPending = false ∧ t.tima.toNat + 0 < 256 ∧
    ({ t with tima := 0 } : Timer).tima.toNat + 255 < 256 := by decide

theorem meets_OamDmaStarts :
    State.reset.params.model = .dmg ∧ (asCgb State.reset).vdma.mode ≠ .hblank ∧ (asCgb State.reset).vdma.stallBlocks = 0 := by
  decide

/-- The lowest page of work RAM, and a page that reads 0x20 below. -/
theorem meets_OamDmaCopies :
    let s (p : Byte) : State :=
      { State.reset with oamDma := { status := .active, page := p, offset := 0, writtenThisCycle := false } }
    (s 0xC0).oam.wf = true ∧ (s 0xC0).oamDma.status = .active ∧ (s 0xC0).oamDma.offset = 0 ∧
    0xC0 ≤ (s 0xC0).oamDma.page.toNat ∧ 0xC0 ≤ (s 0xFF).oamDma.page.toNat := by decide

/-- An HBlank-DMA that 0x7F ends and 0x80 starts anew; none, and 0x7F starts a General-DMA. -/
theorem meets_Hdma5 :
    let s : State := asCgb { State.reset with vdma := { State.reset.vdma with mode := .hblank } }
    s.params.model = .cgb ∧ s.vdma.mode = .hblank ∧ (0x7F : Byte).toNat < 128 ∧ 128 ≤ (0x80 : Byte).toNat ∧
    (asCgb State.reset).vdma.mode ≠ .hblank ∧ State.reset.params.model = .dmg := by decide

/-- One block that ends where work RAM and VRAM end, with a VRAM in canonical form. -/
theorem meets_GeneralDma :
    let s : State := asCgb { State.reset with
      vdma := { State.reset.vdma with mode := .general, src := 0xDFF0, dst := 0x9FF0, remaining := 1, stallBlocks := 1 } }
    s.params.model = .cgb ∧ s.vdma.mode = .general ∧ 0 < s.vdma.remaining ∧ s.vdma.stallBlocks = s.vdma.remaining ∧
    s.vram.wf = true ∧ 0xC000 ≤ s.vdma.src.toNat ∧ s.vdma.src.toNat + 16 * s.vdma.remaining ≤ 0xE000 ∧
    0x8000 ≤ s.vdma.dst.toNat ∧ s.vdma.dst.toNat + 16 * s.vdma.remaining ≤ 0xA000 := by decide

/-- A dot that writes the 160th pixel, on `Cgb` with an HBlank-DMA running; and a dot of the LCD that is off. -/
theorem meets_HblankTrigger :
    let p : Ppu := { Ppu.powerOn with
      lcdc := 0x81, mode := .drawing, dot := 251
      pipe := { Pipeline.quiet with lx := 159, bgFifo := [{ color := 0, pal := 0, pri := false }], firstFetch := false } }
    let s : State := asCgb { State.reset with ppu := p, vdma := { State.reset.vdma with mode := .hblank } }
    s.ppu.dot + 1 < 456 ∧ s.ppu.mode = .drawing ∧ s.ppuDot.ppu.mode = .hblank ∧ s.params.model = .cgb ∧
    s.vdma.mode = .hblank ∧ s.cpu.halted = false ∧ State.reset.ppu.mode ≠ .drawing := by decide +kernel

/-- Both values of the bit before the write, both after. -/
theorem meets_LcdSwitch :
    let on : Ppu := { Ppu.powerOn with lcdc := 0x80 }
    Ppu.powerOn.lcdc.getLsbD 7 = false ∧ on.lcdc.getLsbD 7 = true ∧ (0x7F : Byte).getLsbD 7 = false ∧
    (0x80 : Byte).getLsbD 7 = true := by decide

/-- Line 0 with `LYC` 0 and the coincidence source enabled: the line is high, and was low. -/
theorem meets_StatLineRises :
    let p : Ppu := { Ppu.powerOn with lcdc := 0x80, statEnable := 0b1000 }
    p.lcdc.getLsbD 7 = true ∧ (p.statEnable.getLsbD 3 = true ∧ p.ly = p.lyc) ∧ p.statLine = false ∧
    Ppu.powerOn.lcdc.getLsbD 7 = false ∧ ({ p with statEnable := 0 } : Ppu).statSources = false := by decide

/-- The last dot of a frame. -/
theorem meets_DotSchedule :
    let p : Ppu := { Ppu.powerOn with lcdc := 0x80, mode := .vblank, ly := 153, dot := 455 }
    p.Ok ∧ p.lcdc.getLsbD 7 = true :=
  ⟨⟨by decide, by decide, by decide, by decide, by decide, by decide, by decide, by decide, by decide⟩, by decide⟩

/-- The first and the last entry of OAM cover line 0: their tops are at the edges of what covers it. -/
theorem meets_OamScanSelects :
    let oam : Memory := ((Memory.ofBytes 0 [0x10, 0x08]).write 156 0x09).write 157 0x08
    let l := (Ppu.powerOn.oamScan { State.reset.video with oam := oam }).lineSprites
    l.map (·.i) = [0, 39] ∧ (oam.read (4 * 39)).toNat ≤ 16 ∧ 16 < (oam.read (4 * 39)).toNat + 8 ∧ l.length < 10 := by
  decide +kernel

theorem meets_Mode3Length :
    let p : Ppu := { Ppu.powerOn with lcdc := 0x81, mode := .oamScan, dot := 79, scx := 7 }
    p.lcdc.getLsbD 7 = true ∧ p.lcdc.getLsbD 1 = false ∧ p.lcdc.getLsbD 5 = false ∧ p.mode = .oamScan ∧ p.dot = 79 := by
  decide

/-- On `Cgb` the lower index takes the slot; on `Dmg` a sprite pixel that shows and one that does not. -/
theorem meets_PixelPriority :
    let q : ObjPixel := { color := 1, pal := 0, idx := 0, bgpri := true }
    let p : Ppu := { Ppu.powerOn with lcdc := 0x82 }
    (asCgb State.reset).video.params.model = .cgb ∧ p.opri.getLsbD 0 = false ∧ q.color ≠ 0 ∧ q.idx < 1 ∧
    State.reset.video.params.model = .dmg ∧ p.lcdc.getLsbD 1 = true ∧ Ppu.powerOn.lcdc.getLsbD 1 = false := by decide

/-- R544: with `LCDC[0]` clear the sprite shows over a background pixel that has priority; with it set it does not. -/
theorem meets_PixelPriority_cgb :
    let q : ObjPixel := { color := 1, pal := 7, idx := 0, bgpri := true }
    let bg : BgPixel := { color := 3, pal := 7, pri := false }
    let p (v : Byte) : Ppu := { Ppu.powerOn with lcdc := v }
    let wins (p : Ppu) : Prop := q.color ≠ 0 ∧ p.lcdc.getLsbD 1 = true ∧
      ¬ (p.lcdc.getLsbD 0 = true ∧ bg.color ≠ 0 ∧ (bg.pri = true ∨ q.bgpri = true))
    (asCgb State.reset).video.params.model = .cgb ∧ wins (p 0x82) ∧ ¬ wins (p 0x83) := by decide

theorem meets_ColourRamPort : (asCgb State.reset).params.model = .cgb := by decide

theorem meets_SerialCompletesAtOnce :
    State.reset.params.model = .dmg ∧ (asCgb State.reset).params.model = .cgb ∧
    ({ State.reset.serial with start := true, internal := true } : Serial).armed = true ∧
    State.reset.serial.armed = false := by decide

/-- Both models; the place of the test vectors, the last dot of the longest mode 3 and the last dot of a frame; both forms;
a step that goes on. -/
theorem meets_PostBootReset :
    Launch.default.params.model = .dmg ∧
    ({ Launch.default with params := { Launch.default.params with model := .cgb } } : Launch).params.model = .cgb ∧
    vectorArgs.OnSchedule ∧ { vectorArgs with mode := .drawing, ly := 143, dot := 368 }.OnSchedule ∧
    { vectorArgs with mode := .vblank, ly := 153, dot := 455 }.OnSchedule ∧
    State.reset.params.resetForm = .powerOn ∧ (State.postBoot Launch.default vectorArgs).params.resetForm = .postBoot ∧
    ∃ t, step State.reset = .next t := by
  refine ⟨rfl, rfl, ?_, ?_, ?_, rfl, rfl, next_of_isNext (by decide +kernel)⟩ <;> constructor <;> decide

/-- The reset state meets the invariant, and steps. -/
theorem meets_StepKeepsInvariant : State.reset.Inv ∧ ∃ t, step State.reset = .next t := by
  refine ⟨⟨memoriesOk_reset, ?_, ?_, ⟨rfl, rfl⟩, fun _ => ⟨rfl, rfl, rfl, rfl, rfl, rfl⟩⟩, next_of_isNext (by decide +kernel)⟩
  · exact ⟨by decide, by decide, by decide, by decide, by decide, by decide, by decide, by decide, by decide⟩
  · exact ⟨by decide, by decide, by decide⟩

end Sys2Proof.Tests
end

section
/-! PROOFS. The PPU stays on its schedule with its buffers bounded: every dot and every register write keeps `Ppu.Ok`,
and every pixel that a dot writes is one of the frame's (65_ppu.md R480, R486, R495 to R510). -/

namespace Sys2Proof.Machine

/-! ## Bounded buffers -/

/-- The part of `Ppu.Ok` that bounds the buffers of mode 3: the dots of mode 3 keep it by themselves. -/
structure Ppu.BuffersOk (p : Ppu) : Prop where
  sprites : p.lineSprites.length ≤ 10
  bgFifo : p.pipe.bgFifo.length ≤ 8
  objFifo : p.pipe.objFifo.length ≤ 8
  discard : p.pipe.discard ≤ 7

theorem Ppu.Ok.buffers {p : Ppu} (h : p.Ok) : p.BuffersOk := ⟨h.sprites, h.bgFifo, h.objFifo, h.discard⟩

@[simp] theorem length_insertByX (s : Sprite) (l : List Sprite) : (insertByX s l).length = l.length + 1 := by
  induction l with
  | nil => rfl
  | cons t ts ih => unfold insertByX; split <;> simp [ih]

@[simp] theorem length_sortByX (l : List Sprite) : (sortByX l).length = l.length := by
  induction l with
  | nil => rfl
  | cons s ss ih => simp [sortByX, ih]

/-- Taking a sprite marks it, and leaves the list as long as it was. -/
theorem length_of_takeSprite {lx : Nat} {l l' : List Sprite} {s : Sprite} (e : takeSprite lx l = some (s, l')) :
    l'.length = l.length := by
  induction l generalizing s l' with
  | nil => exact nomatch e
  | cons t ts ih =>
    unfold takeSprite at e
    split at e
    · cases e; rfl
    · split at e
      · exact nomatch e
      · next hts => cases e; simp [ih hts]

@[simp] theorem length_mergeSlots (v : Video) (p : Ppu) (px : Nat → ObjPixel) (j : Nat) (l : List (Option ObjPixel)) :
    (mergeSlots v p px j l).length = l.length := by
  induction l generalizing j with
  | nil => rfl
  | cons c rest ih => unfold mergeSlots; split <;> simp [ih]

/-- A push changes neither the sprites' FIFO nor the pixels to discard nor the column (R520, R523). -/
theorem Pipeline.pushStep_keeps (q : Pipeline) :
    q.pushStep.objFifo = q.objFifo ∧ q.pushStep.discard = q.discard ∧ q.pushStep.lx = q.lx := by
  unfold Pipeline.pushStep; dsimp only; split <;> split <;> exact ⟨rfl, rfl, rfl⟩

/-- A push puts one row of eight pixels into an empty FIFO (R523). -/
theorem Pipeline.length_pushStep_bgFifo {q : Pipeline} (h : q.bgFifo.length ≤ 8) : q.pushStep.bgFifo.length ≤ 8 := by
  have hrow : q.row.length ≤ 8 := Nat.le_refl 8
  unfold Pipeline.pushStep; dsimp only; split <;> split <;> assumption

/-- A dot of the background fetcher keeps the buffers bounded: only its push fills one. -/
theorem Ppu.bgFetchStep_buffers (v : Video) {p : Ppu} (h : p.BuffersOk) : (p.bgFetchStep v).BuffersOk := by
  obtain ⟨hs, hb, ho, hd⟩ := h
  unfold Ppu.bgFetchStep
  dsimp only
  split
  · obtain ⟨hobj, hdis, -⟩ := Pipeline.pushStep_keeps { p.pipe with fSub := p.pipe.fSub + 1 }
    exact ⟨hs, Pipeline.length_pushStep_bgFifo hb, hobj.symm ▸ ho, hdis.symm ▸ hd⟩
  · split <;> exact ⟨hs, hb, ho, hd⟩
  · split <;> exact ⟨hs, hb, ho, hd⟩
  · split
    · exact ⟨hs, hb, ho, hd⟩
    · split <;> exact ⟨hs, hb, ho, hd⟩

theorem Ppu.length_of_spriteTrigger {p : Ppu} {s : Sprite} {l : List Sprite} (e : p.spriteTrigger = some (s, l)) :
    l.length = p.lineSprites.length := by
  unfold Ppu.spriteTrigger at e
  split at e
  · exact length_of_takeSprite e
  · exact nomatch e

theorem Ppu.startWindow_buffers {p : Ppu} (h : p.BuffersOk) : p.startWindow.BuffersOk :=
  ⟨h.sprites, Nat.zero_le 8, h.objFifo, Nat.sub_le 7 _⟩

theorem Ppu.popPixel_buffers (v : Video) {p : Ppu} (h : p.BuffersOk) (bg : BgPixel) {rest : List BgPixel}
    (hr : rest.length ≤ 8) : (p.popPixel v bg rest).ppu.BuffersOk := by
  obtain ⟨hs, hb, ho, hd⟩ := h
  unfold Ppu.popPixel
  split
  · exact ⟨hs, hr, ho, Nat.le_trans (Nat.sub_le _ 1) hd⟩
  · refine ⟨hs, hr, ?_, hd⟩
    simp only [List.length_tail]
    omega

theorem Ppu.drawStep_buffers (v : Video) {p : Ppu} (h : p.BuffersOk) : (p.drawStep v).ppu.BuffersOk := by
  unfold Ppu.drawStep
  split
  · exact h
  · next bg rest hbg =>
    have hr : rest.length ≤ 8 := by have := h.bgFifo; simp only [hbg, List.length_cons] at this; omega
    split
    · next e => exact ⟨(Ppu.length_of_spriteTrigger e).symm ▸ h.sprites, h.bgFifo, h.objFifo, h.discard⟩
    · split
      · exact Ppu.startWindow_buffers h
      · exact Ppu.popPixel_buffers v h bg hr

theorem Ppu.spriteMerge_buffers (v : Video) {p : Ppu} (h : p.BuffersOk) (s : Sprite) :
    (p.spriteMerge v s).BuffersOk := by
  have ho := h.objFifo
  refine ⟨h.sprites, h.bgFifo, ?_, h.discard⟩
  simp only [Ppu.spriteMerge, length_mergeSlots, List.length_append, List.length_replicate]
  omega

theorem Ppu.spriteStep_buffers (v : Video) {p : Ppu} (h : p.BuffersOk) (f : SpriteFetch) :
    (p.spriteStep v f).BuffersOk := by
  unfold Ppu.spriteStep
  split
  · obtain ⟨hs, hb, ho, hd⟩ := Ppu.spriteMerge_buffers v h f.sprite
    exact ⟨hs, hb, ho, hd⟩
  · exact ⟨h.sprites, h.bgFifo, h.objFifo, h.discard⟩

/-- A dot of mode 3 keeps the buffers bounded. -/
theorem Ppu.mode3Dot_buffers (v : Video) {p : Ppu} (h : p.BuffersOk) : (p.mode3Dot v).ppu.BuffersOk := by
  unfold Ppu.mode3Dot
  split
  · exact Ppu.spriteStep_buffers v h _
  · exact Ppu.drawStep_buffers v (Ppu.bgFetchStep_buffers v h)

/-! ## The place in the frame, and the pixel of a dot -/

/-- Where the PPU is in the frame (R480). -/
structure PpuPlace where
  mode : PpuMode
  ly : Byte
  dot : Nat

/-- The place of a PPU. -/
def Ppu.place (p : Ppu) : PpuPlace := { mode := p.mode, ly := p.ly, dot := p.dot }

/-- A dot of the fetcher moves neither the place nor the column of the next pixel. -/
theorem Ppu.bgFetchStep_place (v : Video) (p : Ppu) :
    (p.bgFetchStep v).place = p.place ∧ (p.bgFetchStep v).pipe.lx = p.pipe.lx := by
  unfold Ppu.bgFetchStep
  dsimp only
  split
  · exact ⟨rfl, (Pipeline.pushStep_keeps _).2.2⟩
  · split <;> exact ⟨rfl, rfl⟩
  · split <;> exact ⟨rfl, rfl⟩
  · split
    · exact ⟨rfl, rfl⟩
    · split <;> exact ⟨rfl, rfl⟩

/-- What a dot of mode 3 does to the column: it writes no pixel and stays, or writes the pixel at its column of line
`LY` and moves on by one (R503, R510). The place stays. -/
structure Mode3Out.DrawsFrom (p : Ppu) (o : Mode3Out) : Prop where
  place : o.ppu.place = p.place
  column : (o.pixel = none ∧ o.ppu.pipe.lx = p.pipe.lx) ∨
    (∃ px, o.pixel = some (160 * p.ly.toNat + p.pipe.lx, px)) ∧ o.ppu.pipe.lx = p.pipe.lx + 1

theorem Ppu.drawStep_drawsFrom (v : Video) (p : Ppu) : (p.drawStep v).DrawsFrom p := by
  unfold Ppu.drawStep
  split
  · exact ⟨rfl, .inl ⟨rfl, rfl⟩⟩
  · split
    · exact ⟨rfl, .inl ⟨rfl, rfl⟩⟩
    · split
      · exact ⟨rfl, .inl ⟨rfl, rfl⟩⟩
      · unfold Ppu.popPixel
        split
        · exact ⟨rfl, .inl ⟨rfl, rfl⟩⟩
        · exact ⟨rfl, .inr ⟨⟨_, rfl⟩, rfl⟩⟩

theorem Ppu.mode3Dot_drawsFrom (v : Video) (p : Ppu) : (p.mode3Dot v).DrawsFrom p := by
  unfold Ppu.mode3Dot
  split
  · refine ⟨?_, .inl ⟨rfl, ?_⟩⟩ <;> (unfold Ppu.spriteStep; split <;> rfl)
  · obtain ⟨hplace, hlx⟩ := Ppu.bgFetchStep_place v p
    have hly : (p.bgFetchStep v).ly = p.ly := congrArg PpuPlace.ly hplace
    obtain ⟨hp, hc⟩ := Ppu.drawStep_drawsFrom v (p.bgFetchStep v)
    rw [hly, hlx] at hc
    exact ⟨hp.trans hplace, hc⟩

/-! ## One dot -/

theorem Ppu.lcdOn_of_regs {p q : Ppu} (e : p.regs = q.regs) : p.lcdOn = q.lcdOn := by
  have hlcdc : p.lcdc = q.lcdc := congrArg PpuRegs.lcdc e
  simp only [Ppu.lcdOn, hlcdc]

/-- On a PPU that is on, any dot of the line is on the schedule. -/
theorem Ppu.Ok.setDot {p : Ppu} (h : p.Ok) (hon : p.lcdOn = true) {d : Nat} (hd : d < 456) : { p with dot := d }.Ok :=
  { h with dot := hd, off := fun hoff => nomatch hon.symm.trans hoff }

theorem Ppu.statUpdate_ok {p : Ppu} (h : p.Ok) : p.statUpdate.Ok := by
  unfold Ppu.statUpdate; split
  · exact { h with }
  · exact h

theorem Ppu.oamScan_startMode3_ok (v : Video) {p : Ppu} (h : p.Ok) (hon : p.lcdOn = true) (hm : p.mode = .oamScan) :
    (p.oamScan v).startMode3.Ok where
  dot := h.dot
  ly := h.ly
  vblank := ⟨nofun, fun hly => nomatch hm.symm.trans (h.vblank.2 hly)⟩
  drawing _ := Nat.zero_lt_succ 159
  off hoff := nomatch hon.symm.trans hoff
  sprites := by
    simp only [Ppu.startMode3, Ppu.oamScan, length_sortByX]
    exact List.length_take_le 10 _
  bgFifo := Nat.zero_le 8
  objFifo := Nat.zero_le 8
  discard := by have := (p.scx.setWidth 3).isLt; simp only [Ppu.startMode3, Ppu.oamScan]; omega

/-- Outside VBlank the line is a visible one. -/
theorem Ppu.Ok.ly_lt {p : Ppu} (h : p.Ok) (hm : p.mode ≠ .vblank) : p.ly.toNat < 144 :=
  Nat.lt_of_not_le fun hly => hm (h.vblank.2 hly)

/-- A dot of mode 3, with the end of the mode at the 160th pixel (R495, R503). -/
theorem Ppu.mode3Dot_ok (v : Video) {p : Ppu} (h : p.Ok) (hon : p.lcdOn = true) (hm : p.mode = .drawing) :
    (if (p.mode3Dot v).finished then { (p.mode3Dot v).ppu with mode := .hblank } else (p.mode3Dot v).ppu).Ok := by
  have hbuf := Ppu.mode3Dot_buffers v h.buffers
  have hon' : (p.mode3Dot v).ppu.lcdOn = true := (Ppu.lcdOn_of_regs (Ppu.mode3Dot_regs v p)).trans hon
  obtain ⟨hplace, hcol⟩ := Ppu.mode3Dot_drawsFrom v p
  have hvis := h.ly_lt (by rw [hm]; decide)
  have hlx := h.drawing hm
  generalize p.mode3Dot v = o at *
  have hmode : o.ppu.mode = .drawing := (congrArg PpuPlace.mode hplace).trans hm
  have hly : o.ppu.ly = p.ly := congrArg PpuPlace.ly hplace
  have hdot : o.ppu.dot = p.dot := congrArg PpuPlace.dot hplace
  have hvis' : o.ppu.ly.toNat < 144 := hly ▸ hvis
  have visible (m : PpuMode) (hne : m ≠ .vblank) (hdraw : m = .drawing → o.ppu.pipe.lx < 160) :
      { o.ppu with mode := m }.Ok :=
    { hbuf with
      dot := hdot ▸ h.dot
      ly := by show o.ppu.ly.toNat < 154; omega
      vblank := ⟨fun e => absurd e hne, fun hge => absurd hvis' (Nat.not_lt.2 hge)⟩
      drawing := hdraw
      off := fun hoff => nomatch hon'.symm.trans hoff }
  split
  · exact visible .hblank (by decide) nofun
  · next hfin =>
    have hlt : o.ppu.pipe.lx < 160 := by
      rcases hcol with ⟨-, hstay⟩ | ⟨⟨px, hpx⟩, hnext⟩
      · omega
      · have hne : o.ppu.pipe.lx ≠ 160 := fun he => hfin (by simp [Mode3Out.finished, hpx, he])
        omega
    exact visible o.ppu.mode (by rw [hmode]; decide) fun _ => hlt

/-- The first part of a dot moves the dot on by one, and is on the schedule otherwise. -/
theorem Ppu.dotBody_ok (v : Video) {p : Ppu} (h : p.Ok) (hon : p.lcdOn = true) :
    (p.dotBody v).ppu.dot = p.dot + 1 ∧ { (p.dotBody v).ppu with dot := p.dot }.Ok := by
  unfold Ppu.dotBody
  split
  · next hm =>
    dsimp only
    split
    · exact ⟨rfl, Ppu.oamScan_startMode3_ok v h hon hm⟩
    · exact ⟨rfl, h⟩
  · next hm =>
    have hok := Ppu.mode3Dot_ok v h hon hm
    have hdot : (p.mode3Dot v).ppu.dot = p.dot := congrArg PpuPlace.dot (Ppu.mode3Dot_drawsFrom v p).place
    dsimp only
    split
    · next hfin => rw [if_pos hfin] at hok; exact ⟨congrArg (· + 1) hdot, hdot ▸ hok⟩
    · next hfin => rw [if_neg hfin] at hok; exact ⟨congrArg (· + 1) hdot, hdot ▸ hok⟩
  · exact ⟨rfl, h⟩
  · exact ⟨rfl, h⟩

/-- A line begins on the schedule: in mode 2 when it is visible, else the PPU is in VBlank (R496). -/
theorem Ppu.beginLine_ok {p : Ppu} (hbuf : p.BuffersOk) (hon : p.lcdOn = true) (hdot : p.dot < 456)
    (hly : p.ly.toNat < 154) (hv : 144 ≤ p.ly.toNat → p.mode = .vblank) : p.beginLine.Ok := by
  unfold Ppu.beginLine
  split
  · next hvis =>
    exact { hbuf with
      dot := hdot
      ly := hly
      vblank := ⟨nofun, fun hge => absurd hvis (Nat.not_lt.2 hge)⟩
      drawing := nofun
      off := fun hoff => nomatch hon.symm.trans hoff }
  · next hvis =>
    have hge := Nat.le_of_not_lt hvis
    exact { hbuf with
      dot := hdot
      ly := hly
      vblank := ⟨fun _ => hge, hv⟩
      drawing := fun hm => nomatch (hv hge).symm.trans hm
      off := fun hoff => nomatch hon.symm.trans hoff }

/-- The next line is one of the frame's, and VBlank begins at line 144 (R495). -/
theorem Ppu.nextLine_ly {p : Ppu} (h : p.Ok) :
    p.nextLine.ly.toNat < 154 ∧ (144 ≤ p.nextLine.ly.toNat → p.nextLine.mode = .vblank) := by
  have hly := h.ly
  have hsucc : (p.ly + 1).toNat = p.ly.toNat + 1 := by bv_omega
  unfold Ppu.nextLine
  dsimp only
  split
  · next h144 => exact ⟨by rw [h144]; exact (by decide : (144 : Byte).toNat < 154), fun _ => rfl⟩
  · next h144 =>
    split
    · exact ⟨Nat.zero_lt_succ 153, nofun⟩
    · next h154 =>
      have h144' : p.ly.toNat + 1 ≠ 144 := fun e => h144 (BitVec.eq_of_toNat_eq (hsucc.trans e))
      have h154' : p.ly.toNat + 1 ≠ 154 := fun e => h154 (BitVec.eq_of_toNat_eq (hsucc.trans e))
      refine ⟨by rw [hsucc]; omega, fun hge => h.vblank.2 ?_⟩
      rw [hsucc] at hge
      omega

/-- The end of a line begins the next one on the schedule (R495, R496). -/
theorem Ppu.nextLine_beginLine_ok {p : Ppu} (h : p.Ok) (hon : p.lcdOn = true) : p.nextLine.beginLine.Ok := by
  have hkeep : p.nextLine.BuffersOk ∧ p.nextLine.dot = 0 := by
    unfold Ppu.nextLine
    dsimp only
    split
    · exact ⟨{ h.buffers with }, rfl⟩
    · split <;> exact ⟨{ h.buffers with }, rfl⟩
  have hon' : p.nextLine.lcdOn = true := (Ppu.lcdOn_of_regs (Ppu.nextLine_regs p)).trans hon
  obtain ⟨hly, hv⟩ := Ppu.nextLine_ly h
  exact Ppu.beginLine_ok hkeep.1 hon' (by rw [hkeep.2]; decide) hly hv

/-- A dot keeps the PPU on its schedule with its buffers bounded (R495). -/
theorem Ppu.dotStep_ok (v : Video) {p : Ppu} (h : p.Ok) : (p.dotStep v).ppu.Ok := by
  unfold Ppu.dotStep
  split
  · next hon =>
    obtain ⟨hdot, hok⟩ := Ppu.dotBody_ok v h hon
    have hon' : (p.dotBody v).ppu.lcdOn = true := (Ppu.lcdOn_of_regs (Ppu.dotBody_regs v p)).trans hon
    refine Ppu.statUpdate_ok ?_
    unfold DotOut.endLine
    split
    · exact (Ppu.nextLine_beginLine_ok hok hon' :)
    · next hne =>
      have hlt : p.dot + 1 < 456 := by
        have := h.dot
        rw [hdot, Config.dotsPerLine] at hne
        omega
      exact (hok.setDot hon' (hdot.symm ▸ hlt) :)
  · exact h

/-- The pixel a dot writes is one of the frame's (R487). -/
theorem Ppu.dotStep_pixel_lt (v : Video) {p : Ppu} (h : p.Ok) {k : Nat} {px : Pixel}
    (e : (p.dotStep v).pixel = some (k, px)) : k < 160 * 144 := by
  have body : (p.dotBody v).pixel = some (k, px) := by
    unfold Ppu.dotStep at e
    split at e
    · unfold DotOut.statEnd DotOut.endLine at e
      split at e <;> exact e
    · exact nomatch e
  unfold Ppu.dotBody at body
  split at body
  · exact nomatch body
  · next hm =>
    have hly := h.ly_lt (by rw [hm]; decide)
    have hlx := h.drawing hm
    obtain ⟨hnone, -⟩ | ⟨⟨qx, hsome⟩, -⟩ := (Ppu.mode3Dot_drawsFrom v p).column
    · exact nomatch hnone.symm.trans body
    · cases hsome.symm.trans body
      omega
  · exact nomatch body
  · exact nomatch body

/-! ## A write to LCDC (R486) -/

theorem Ppu.storeLcdc_ok {p : Ppu} (h : p.Ok) (b : Byte) : (p.storeLcdc b).Ok := by
  unfold Ppu.storeLcdc
  dsimp only
  split
  · exact { h.buffers with
      dot := Nat.zero_lt_succ 455
      ly := Nat.zero_lt_succ 153
      vblank := ⟨nofun, nofun⟩
      drawing := nofun
      off := fun _ => ⟨rfl, rfl, rfl⟩ }
  · next hoff =>
    split
    · next hon =>
      simp only [Bool.and_eq_true] at hon
      exact Ppu.beginLine_ok { h.buffers with } hon.2 (Nat.zero_lt_succ 455) (Nat.zero_lt_succ 153) nofun
    · refine { h with off := fun hq => h.off ?_ }
      simpa [hq] using hoff

end Sys2Proof.Machine
end

section
/-! PROOFS. What the operations inside an M-cycle keep is kept by every step: the layer below `StepStable`. -/

namespace Sys2Proof.Machine

/-- `s` with every part that the invariant says nothing about between M-cycles taken from `t`. -/
def State.withOthers (s t : State) : State :=
  { s with
    cpu := t.cpu, irq := t.irq, timer := t.timer, joypad := t.joypad, serial := t.serial, bootMapped := t.bootMapped,
    mcycles := t.mcycles, cart := t.cart, bootRom := t.bootRom, buttons := t.buttons, inputs := t.inputs,
    trace := t.trace, serialOut := t.serialOut, framesDone := t.framesDone }

/-- A property that none of the operations an M-cycle is built from can lose (R110, R465, R466). -/
structure CycleStable (P : State → Prop) : Prop where
  others : ∀ s t : State, P s → P (s.withOthers t)
  oamDmaStep : ∀ s : State, P s → P s.oamDmaStep
  ppuDot : ∀ s : State, P s → P s.ppuDot
  settle : ∀ s : State, P s → P s.settle
  vdmaCopyByte : ∀ s : State, P s → P s.vdmaCopyByte
  blockDone : ∀ s : State, P s → P { s with vdma := s.vdma.blockDone }
  rawWrite : ∀ (s : State) (a : Word) (v : Byte), P s → P (s.rawWrite a v)
  speed : ∀ s : State, s.isCgb = true → P s → P { s with doubleSpeed := !s.doubleSpeed, key1Armed := false }

namespace CycleStable

variable {P : State → Prop} (h : CycleStable P)
include h

theorem ppuDots (n : Nat) {s : State} (hs : P s) : P (State.ppuDots n s) := by
  induction n generalizing s with
  | zero => exact hs
  | succ n ih => exact ih (h.ppuDot _ hs)

theorem deviceTick {s : State} (hs : P s) : P s.deviceTick := by
  have htimer : P s.oamDmaStep.timerStep := h.others _ s.oamDmaStep.timerStep (h.oamDmaStep _ hs)
  have hppu : P s.oamDmaStep.timerStep.ppuStep := h.ppuDots _ htimer
  have hserial := h.others _ s.oamDmaStep.timerStep.ppuStep.serialStep hppu
  exact h.settle _ (h.others _ s.oamDmaStep.timerStep.ppuStep.serialStep.joypadStep hserial)

theorem vdmaCopyBytes (n : Nat) {s : State} (hs : P s) : P (State.vdmaCopyBytes n s) := by
  induction n generalizing s with
  | zero => exact hs
  | succ n ih => exact ih (h.vdmaCopyByte _ hs)

theorem vdmaCycles (k n : Nat) {s : State} (hs : P s) : P (State.vdmaCycles k n s) := by
  induction n generalizing s with
  | zero => exact hs
  | succ n ih => exact ih (h.deviceTick (h.vdmaCopyBytes k hs))

theorem vdmaBlocks (n : Nat) {s : State} (hs : P s) : P (State.vdmaBlocks n s) := by
  induction n generalizing s with
  | zero => exact hs
  | succ n ih =>
    unfold State.vdmaBlocks; split
    · exact hs
    · exact ih (h.blockDone _ (h.vdmaCycles _ _ hs))

theorem stallCheck {s : State} (hs : P s) : P s.stallCheck := by
  unfold State.stallCheck; split
  · exact h.vdmaBlocks _ hs
  · exact hs

theorem cpuWrite {s : State} (hs : P s) (a : Word) (v : Byte) : P (s.cpuWrite a v) := by
  unfold State.cpuWrite; split
  · exact hs
  · exact h.rawWrite _ a v hs

theorem log {s : State} (hs : P s) (e : BusEvent) : P (s.log e) := h.others _ (s.log e) hs

/-- What every operation inside an M-cycle keeps, every instruction and every step keeps. -/
theorem stepStable : StepStable P where
  cpu s c hs := h.others s { s with cpu := c } hs
  idle _ hs := h.deviceTick (h.log (h.stallCheck hs) _)
  read _ _ hs := h.deviceTick (h.log (h.stallCheck hs) _)
  write _ a v hs := h.deviceTick (h.log (h.cpuWrite (h.stallCheck hs) a v) _)
  speed := h.speed
  begin s hs := by
    unfold State.beginStep; split
    · exact h.others s { s with trace := [] } hs
    · next b rest _ => exact h.others s { s with trace := [], buttons := b, inputs := rest } hs
  ack s f hs := h.others s { s with irq := { s.irq with flags := f } } hs

end CycleStable

end Sys2Proof.Machine
end

section
/-! PROOFS. Every operation keeps the memories within their sizes, the PPU on its schedule and the counters of the DMA
engines in range: each is the reason why the writes of the next one stay in range. -/

namespace Sys2Proof.Machine

/-! ## Keys in range -/

/-- The key of a memory's cell is below the memory's size (R30). -/
def Target.InSize : Target → Prop
  | .vram k => k < 0x4000
  | .oam k => k < 0xA0
  | .wram k => k < 0x8000
  | .hram k => k < 0x7F
  | .boot _ | .cart _ | .unusable _ | .io _ | .ie => True

theorem State.vramBank_lt (s : State) : s.vramBank < 2 := by
  unfold State.vramBank; split
  · exact s.ppu.vbk.isLt
  · decide

theorem State.wramBank_lt (s : State) : s.wramBank < 8 := by
  have := s.svbk.isLt
  unfold State.wramBank; split <;> omega

theorem State.wramKey_lt (s : State) {off : Nat} (h : off < 0x2000) : s.wramKey off < 0x8000 := by
  have := s.wramBank_lt
  unfold State.wramKey; split <;> omega

/-- The address decode selects only cells that exist (R81). -/
theorem State.target_inSize (s : State) (a : Word) : (s.target a).InSize := by
  have hbank := s.vramBank_lt
  unfold State.target
  dsimp only
  split
  · split <;> trivial
  split
  · show _ < 0x4000
    omega
  split
  · trivial
  split
  · exact s.wramKey_lt (by omega)
  split
  · exact s.wramKey_lt (by omega)
  split
  · show _ < 0xA0
    omega
  split
  · trivial
  split
  · trivial
  split
  · show _ < 0x7F
    omega
  · trivial

/-! ## The DMA counters -/

/-- The counters of the OAM-DMA engine in range (R36, R432). -/
structure OamDma.Ok (d : OamDma) : Prop where
  offset : d.offset ≤ 0xA0
  active : d.status = .active → d.offset < 0xA0

theorem OamDma.step_ok {d : OamDma} (h : d.Ok) : d.step.Ok := by
  unfold OamDma.step
  split
  · exact h
  · split
    · exact h
    · exact ⟨Nat.zero_le 0xA0, fun _ => Nat.zero_lt_succ 0x9F⟩
  · next hact =>
    have hlt := h.active hact
    refine ⟨hlt, fun e => ?_⟩
    have hne : d.offset + 1 ≠ 0xA0 := fun he => by simp [he] at e
    exact Nat.lt_of_le_of_ne hlt hne

theorem VramDma.blockDone_remaining_le (d : VramDma) : d.blockDone.remaining ≤ d.remaining := by
  unfold VramDma.blockDone; dsimp only; split <;> exact Nat.sub_le _ 1

theorem VramDma.writeHdma5_remaining_le {d : VramDma} (h : d.remaining ≤ 128) (v : Byte) :
    (d.writeHdma5 v).remaining ≤ 128 := by
  have := (v.setWidth 7).isLt
  unfold VramDma.writeHdma5
  dsimp only
  split
  · exact h
  · split <;> exact this

theorem VramDma.hblankTrigger_remaining (d : VramDma) (p : Params) (b : Bool) :
    (d.hblankTrigger p b).remaining = d.remaining := by
  obtain ⟨n, e⟩ := d.hblankTrigger_eq p b
  rw [e]

/-! ## The bounds -/

/-- The part of the invariant that bounds what is stored: the memories within their sizes, the PPU, the DMA counters. -/
structure State.Bounded (s : State) : Prop where
  vram : s.vram.below 0x4000 = true
  oam : s.oam.below 0xA0 = true
  wram : s.wram.below 0x8000 = true
  hram : s.hram.below 0x7F = true
  bgCram : s.bgCram.below 0x40 = true
  objCram : s.objCram.below 0x40 = true
  frameBuffer : Sparse.below (160 * 144) s.frameBuffer = true
  ppu : s.ppu.Ok
  oamDma : s.oamDma.Ok
  remaining : s.vdma.remaining ≤ 128

namespace State.Bounded

variable {s : State} (h : s.Bounded)
include h

theorem others (t : State) : (s.withOthers t).Bounded := { h with }

theorem setPpu {p : Ppu} (hp : p.Ok) : { s with ppu := p }.Bounded := { h with ppu := hp }

theorem setOamDma {d : OamDma} (hd : d.Ok) : { s with oamDma := d }.Bounded := { h with oamDma := hd }

theorem setVdma {d : VramDma} (hd : d.remaining ≤ 128) : { s with vdma := d }.Bounded := { h with remaining := hd }

/-- A write to DMA requests a transfer and leaves the offset (R431). -/
theorem writeDma (v : Byte) : { s with oamDma := s.oamDma.write v }.Bounded := h.setOamDma ⟨h.oamDma.offset, nofun⟩

theorem statUpdate : s.statUpdate.Bounded := { h with ppu := Ppu.statUpdate_ok h.ppu }

/-- A write to a register that the STAT line depends on (R491). -/
theorem setPpu_statUpdate {p : Ppu} (hp : p.Ok) : { s with ppu := p }.statUpdate.Bounded := (h.setPpu hp).statUpdate

theorem writeLcdc (v : Byte) : (s.writeLcdc v).Bounded := by
  have ht := h.setPpu (Ppu.storeLcdc_ok h.ppu v)
  unfold State.writeLcdc
  dsimp only
  split
  · exact ht.statUpdate
  · exact ht

theorem writeBcpd (v : Byte) : (s.writeBcpd v).Bounded :=
  { h with bgCram := Memory.below_write s.ppu.bcps.index.isLt h.bgCram v, ppu := { h.ppu with } }

theorem writeOcpd (v : Byte) : (s.writeOcpd v).Bounded :=
  { h with objCram := Memory.below_write s.ppu.ocps.index.isLt h.objCram v, ppu := { h.ppu with } }

theorem cgbWrite {t : State} (ht : t.Bounded) : (s.cgbWrite t).Bounded := by
  unfold State.cgbWrite; split
  · exact ht
  · exact h

/-- A register write by the kind of the register: one outside the bounds, the LCD's switch, a register of the STAT line
and any other of the PPU, the OAM-DMA's, and those of the colour model. -/
theorem ioWrite (r : Nat) (v : Byte) : (s.ioWrite r v).Bounded := by
  unfold State.ioWrite
  split
  all_goals first
    | exact h
    | exact { h with }
    | exact h.writeLcdc v
    | exact h.setPpu_statUpdate { h.ppu with }
    | exact h.setPpu { h.ppu with }
    | exact h.writeDma v
    | exact h.cgbWrite { h with }
    | exact h.cgbWrite (h.setPpu { h.ppu with })
    | exact h.cgbWrite (h.setVdma (VramDma.writeHdma5_remaining_le h.remaining v))
    | exact h.cgbWrite (h.writeBcpd v)
    | exact h.cgbWrite (h.writeOcpd v)

theorem rawWrite (a : Word) (v : Byte) : (s.rawWrite a v).Bounded := by
  have hin := s.target_inSize a
  unfold State.rawWrite
  generalize s.target a = t at hin
  cases t with
  | vram k => exact { h with vram := Memory.below_write hin h.vram v }
  | oam k => exact { h with oam := Memory.below_write hin h.oam v }
  | wram k => exact { h with wram := Memory.below_write hin h.wram v }
  | hram k => exact { h with hram := Memory.below_write hin h.hram v }
  | io r => exact h.ioWrite r v
  | ie => exact { h with }
  | boot off => exact h
  | cart a => exact h
  | unusable a => exact h

/-- The engine copies only at an offset of OAM (R432). -/
theorem oamDmaStep : s.oamDmaStep.Bounded := by
  refine { h with oam := ?_, oamDma := OamDma.step_ok h.oamDma }
  show Memory.below 0xA0 (if _ then _ else _) = true
  split
  · next hact => exact Memory.below_write (h.oamDma.active hact) h.oam _
  · exact h.oam

/-- A dot writes only a pixel of the frame (R487). -/
theorem ppuDot : s.ppuDot.Bounded := by
  refine { h with frameBuffer := ?_, ppu := Ppu.dotStep_ok _ h.ppu, remaining := ?_ }
  · have hlt := @Ppu.dotStep_pixel_lt s.video s.ppu h.ppu
    show Sparse.below _ (putPixel s.frameBuffer (s.ppu.dotStep s.video).pixel) = true
    generalize (s.ppu.dotStep s.video).pixel = o at hlt
    cases o with
    | none => exact h.frameBuffer
    | some kp => exact Sparse.below_write (hlt rfl) h.frameBuffer _
  · show VramDma.remaining (if _ then _ else _) ≤ 128
    split
    · rw [VramDma.hblankTrigger_remaining]; exact h.remaining
    · exact h.remaining

theorem vdmaCopyByte : s.vdmaCopyByte.Bounded := by
  have hbank := s.vramBank_lt
  have hdst := (s.vdma.dst.setWidth 13).isLt
  exact { h with vram := Memory.below_write (by omega) h.vram _ }

end State.Bounded

theorem State.bounded_cycleStable : CycleStable State.Bounded where
  others _ t h := h.others t
  oamDmaStep _ h := h.oamDmaStep
  ppuDot _ h := h.ppuDot
  settle _ h := { h with oamDma := { h.oamDma with } }
  vdmaCopyByte _ h := h.vdmaCopyByte
  blockDone s h := h.setVdma (Nat.le_trans s.vdma.blockDone_remaining_le h.remaining)
  rawWrite _ a v h := h.rawWrite a v
  speed _ _ h := { h with }

end Sys2Proof.Machine
end

section
/-! PROOFS. On `Dmg` no operation reaches the state of the colour model (R37, R41, R45, R468). -/

namespace Sys2Proof.Machine

theorem State.cgbWrite_of_dmg {s : State} (hm : s.params.model = .dmg) (t : State) : s.cgbWrite t = s := by
  simp [State.cgbWrite, State.isCgb, Params.isCgb, hm]

theorem Ppu.vbk_of_regs {p q : Ppu} (e : p.regs = q.regs) : p.vbk = q.vbk := congrArg PpuRegs.vbk e

theorem Ppu.switchOn_vbk (p : Ppu) : p.switchOn.vbk = p.vbk := by
  unfold Ppu.switchOn Ppu.beginLine; split <;> rfl

theorem VramDma.hblankTrigger_of_idle {d : VramDma} (h : d.mode = .idle) (p : Params) (b : Bool) :
    d.hblankTrigger p b = d := by
  simp [VramDma.hblankTrigger, h]

theorem VramDma.blockDone_idle {d : VramDma} (hm : d.mode = .idle) (hs : d.stallBlocks = 0) :
    d.blockDone.mode = .idle ∧ d.blockDone.stallBlocks = 0 := by
  unfold VramDma.blockDone; dsimp only; split
  · exact ⟨rfl, rfl⟩
  · exact ⟨hm, by rw [hs]⟩

namespace State.NoColour

variable {s : State} (h : s.NoColour)
include h

theorem others (t : State) : (s.withOthers t).NoColour := { h with }

theorem statUpdate : s.statUpdate.NoColour :=
  { h with vbk := (Ppu.vbk_of_regs s.ppu.statUpdate_regs).trans h.vbk }

/-- A write to a register that the STAT line depends on (R491). -/
theorem setPpu_statUpdate {p : Ppu} (hp : p.vbk = s.ppu.vbk) : { s with ppu := p }.statUpdate.NoColour :=
  State.NoColour.statUpdate { h with vbk := hp.trans h.vbk }

theorem writeLcdc (v : Byte) : (s.writeLcdc v).NoColour := by
  have hvbk : (s.ppu.storeLcdc v).vbk = s.ppu.vbk := by
    unfold Ppu.storeLcdc
    dsimp only
    split
    · rfl
    · split
      · exact Ppu.switchOn_vbk _
      · rfl
  unfold State.writeLcdc
  dsimp only
  split
  · exact h.setPpu_statUpdate hvbk
  · exact { h with vbk := hvbk.trans h.vbk }

theorem cgbWrite (hm : s.params.model = .dmg) (t : State) : (s.cgbWrite t).NoColour := by
  rwa [State.cgbWrite_of_dmg hm]

/-- A register write by the kind of the register: those of the colour model drop it (R45, R92). -/
theorem ioWrite (hm : s.params.model = .dmg) (r : Nat) (v : Byte) : (s.ioWrite r v).NoColour := by
  unfold State.ioWrite
  split
  all_goals first
    | exact h
    | exact { h with }
    | exact h.writeLcdc v
    | exact h.setPpu_statUpdate rfl
    | exact h.cgbWrite hm _

theorem rawWrite (hm : s.params.model = .dmg) (a : Word) (v : Byte) : (s.rawWrite a v).NoColour := by
  unfold State.rawWrite
  cases s.target a with
  | io r => exact h.ioWrite hm r v
  | boot off => exact h
  | cart a => exact h
  | unusable a => exact h
  | vram k => exact { h with }
  | oam k => exact { h with }
  | wram k => exact { h with }
  | hram k => exact { h with }
  | ie => exact { h with }

theorem ppuDot : s.ppuDot.NoColour := by
  have hvdma : s.ppuDot.vdma = s.vdma := by
    show (if _ then _ else _) = _
    rw [VramDma.hblankTrigger_of_idle h.vdmaMode, ite_self]
  exact { h with
    vbk := (Ppu.vbk_of_regs (Ppu.dotStep_regs s.video s.ppu)).trans h.vbk
    vdmaMode := (congrArg VramDma.mode hvdma).trans h.vdmaMode
    vdmaStall := (congrArg VramDma.stallBlocks hvdma).trans h.vdmaStall }

theorem blockDone : { s with vdma := s.vdma.blockDone }.NoColour := by
  obtain ⟨hmode, hstall⟩ := VramDma.blockDone_idle h.vdmaMode h.vdmaStall
  exact { h with vdmaMode := hmode, vdmaStall := hstall }

end State.NoColour

theorem State.rawWrite_params (s : State) (a : Word) (v : Byte) : (s.rawWrite a v).params = s.params := by
  unfold State.rawWrite
  cases s.target a with
  | io r => exact State.ioWrite_params s r v
  | _ => rfl

/-- What the invariant says of a `Dmg`: it has no state of the colour model. -/
def State.DmgColourless (s : State) : Prop := s.params.model = .dmg → s.NoColour

theorem State.dmgColourless_cycleStable : CycleStable State.DmgColourless where
  others _ t h hm := (h hm).others t
  oamDmaStep _ h hm := { h hm with }
  ppuDot _ h hm := (h hm).ppuDot
  settle _ h hm := { h hm with }
  vdmaCopyByte _ h hm := { h hm with }
  blockDone _ h hm := (h hm).blockDone
  rawWrite s a v h hm := by
    rw [State.rawWrite_params] at hm
    exact (h hm).rawWrite hm a v
  speed s hc _ hm := by simp [State.isCgb, Params.isCgb, show s.params.model = .dmg from hm] at hc

end Sys2Proof.Machine
end

section
/-! PROOFS. The invariant of the machine: its parts, each kept by every step, make it up. -/

namespace Sys2Proof.Machine

/-- Every M-cycle ends with nothing waiting (R110, R345), and nothing else touches the two latches. -/
theorem State.settled_stepStable : StepStable State.Settled where
  cpu _ _ h := { h with }
  idle _ _ := ⟨rfl, rfl⟩
  read _ _ _ := ⟨rfl, rfl⟩
  write _ _ _ _ := ⟨rfl, rfl⟩
  speed _ _ h := { h with }
  begin s h := by unfold State.beginStep; split <;> exact { h with }
  ack _ _ h := { h with }

theorem State.MemoriesOk.canonical {s : State} (h : s.MemoriesOk) : s.Canonical :=
  ⟨h.vram.1, h.oam.1, h.wram.1, h.hram.1, h.bgCram.1, h.objCram.1, h.frameBuffer.1⟩

theorem State.Inv.bounded {s : State} (h : s.Inv) : s.Bounded where
  vram := h.memories.vram.2
  oam := h.memories.oam.2
  wram := h.memories.wram.2
  hram := h.memories.hram.2
  bgCram := h.memories.bgCram.2
  objCram := h.memories.objCram.2
  frameBuffer := h.memories.frameBuffer.2
  ppu := h.ppu
  oamDma := ⟨h.dma.offset, h.dma.active⟩
  remaining := h.dma.remaining

/-- The invariant from its parts. -/
theorem State.Inv.of_parts {s : State} (hc : s.Canonical) (hb : s.Bounded) (hs : s.Settled) (hd : s.DmgColourless) :
    s.Inv where
  memories :=
    { vram := ⟨hc.vram, hb.vram⟩
      oam := ⟨hc.oam, hb.oam⟩
      wram := ⟨hc.wram, hb.wram⟩
      hram := ⟨hc.hram, hb.hram⟩
      bgCram := ⟨hc.bgCram, hb.bgCram⟩
      objCram := ⟨hc.objCram, hb.objCram⟩
      frameBuffer := ⟨hc.frameBuffer, hb.frameBuffer⟩ }
  ppu := hb.ppu
  dma := ⟨hb.oamDma.offset, hb.oamDma.active, hb.remaining⟩
  settled := hs
  noColour := hd

/-- Settles O60: the canonical form, the bounds, the cleared latches and the absence of colour on `Dmg` are each kept by
every step. -/
theorem stepKeepsInvariant : Obligations.StepKeepsInvariant := fun _ _ h e =>
  .of_parts (step_canonical h.memories.canonical e) (State.bounded_cycleStable.stepStable.step h.bounded e)
    (State.settled_stepStable.step h.settled e) (State.dmgColourless_cycleStable.stepStable.step h.noColour e)

end Sys2Proof.Machine
end

section
/-! PROOFS. The memory map: which target an address is (20_memory.md R81, R84 to R94), one lemma per range, and what the
CPU's accesses make of it (R95, R96). -/

namespace Sys2Proof.Machine

/-! ## The address decode -/

section
variable {s : State} {a : Word}

theorem State.target_boot (h : a.toNat < 0x8000) (hs : s.bootShows a.toNat = true) : s.target a = .boot a.toNat := by
  simp [State.target, h, hs]

theorem State.target_rom (h : a.toNat < 0x8000) (hs : s.bootShows a.toNat = false) : s.target a = .cart a := by
  simp [State.target, h, hs]

theorem State.target_vram (h : 0x8000 ≤ a.toNat) (h' : a.toNat < 0xA000) :
    s.target a = .vram (0x2000 * s.vramBank + (a.toNat - 0x8000)) := by
  unfold State.target; grind

theorem State.target_cartRam (h : 0xA000 ≤ a.toNat) (h' : a.toNat < 0xC000) : s.target a = .cart a := by
  unfold State.target; grind

theorem State.target_wram (h : 0xC000 ≤ a.toNat) (h' : a.toNat < 0xE000) :
    s.target a = .wram (s.wramKey (a.toNat - 0xC000)) := by
  unfold State.target; grind

theorem State.target_echo (h : 0xE000 ≤ a.toNat) (h' : a.toNat < 0xFE00) :
    s.target a = .wram (s.wramKey (a.toNat - 0xE000)) := by
  unfold State.target; grind

theorem State.target_oam (h : 0xFE00 ≤ a.toNat) (h' : a.toNat < 0xFEA0) : s.target a = .oam (a.toNat - 0xFE00) := by
  unfold State.target; grind

theorem State.target_unusable (h : 0xFEA0 ≤ a.toNat) (h' : a.toNat < 0xFF00) : s.target a = .unusable a := by
  unfold State.target; grind

theorem State.target_io (h : 0xFF00 ≤ a.toNat) (h' : a.toNat < 0xFF80) : s.target a = .io (a.toNat - 0xFF00) := by
  unfold State.target; grind

theorem State.target_hram (h : 0xFF80 ≤ a.toNat) (h' : a.toNat < 0xFFFF) : s.target a = .hram (a.toNat - 0xFF80) := by
  unfold State.target; grind

end

/-! ## Raw accesses by their target -/

theorem State.rawRead_of {s : State} {a : Word} {t : Target} (h : s.target a = t) : s.rawRead a = s.readTarget t := by
  rw [State.rawRead, h]

theorem State.rawWrite_of {s : State} {a : Word} {t : Target} (h : s.target a = t) (v : Byte) :
    s.rawWrite a v = s.writeTarget v t := by
  rw [State.rawWrite, h]

theorem State.raw_of {s : State} {a : Word} {t : Target} (h : s.target a = t) (v : Byte) :
    s.rawRead a = s.readTarget t ∧ s.rawWrite a v = s.writeTarget v t := ⟨State.rawRead_of h, State.rawWrite_of h v⟩

/-! ## What blocks the CPU (R95, R96) -/

theorem State.dmaHidesRead_iff {s : State} {a : Word} :
    s.dmaHidesRead a = true ↔ s.oamDma.status = .active ∧ ¬ (0xFF80 ≤ a.toNat ∨ a.toNat = 0xFF0F) := by
  simp [State.dmaHidesRead]

theorem State.dmaDropsWrite_iff {s : State} {a : Word} :
    s.dmaDropsWrite a = true ↔ s.oamDma.status = .active ∧ a.toNat < 0xFF00 := by
  simp [State.dmaDropsWrite]

theorem State.ppuBlocks_iff {s : State} {a : Word} :
    s.ppuBlocks a = true ↔ (0x8000 ≤ a.toNat ∧ a.toNat ≤ 0x9FFF ∧ s.ppu.mode = .drawing) ∨
      (0xFE00 ≤ a.toNat ∧ a.toNat ≤ 0xFE9F ∧ (s.ppu.mode = .oamScan ∨ s.ppu.mode = .drawing)) := by
  simp [State.ppuBlocks, and_assoc]

/-- Settles O34: each access tests exactly the stated condition. -/
theorem cpuAccessBlocking : Obligations.CpuAccessBlocking := by
  intro s a v vram oam read write
  have hread : (s.dmaHidesRead a || s.ppuBlocks a) = true ↔ read := by
    rw [Bool.or_eq_true, State.dmaHidesRead_iff, State.ppuBlocks_iff]
  have hwrite : (s.dmaDropsWrite a || s.ppuBlocks a) = true ↔ write := by
    rw [Bool.or_eq_true, State.dmaDropsWrite_iff, State.ppuBlocks_iff]
  exact ⟨fun h => if_pos (hread.2 h), fun h => if_neg (mt hread.1 h), fun h => if_pos (hwrite.2 h),
    fun h => if_neg (mt hwrite.1 h)⟩

/-! ## The echo (R89) -/

theorem toNat_sub_echo {a : Word} (h : 0xE000 ≤ a.toNat) : (a - 0x2000).toNat = a.toNat - 0x2000 := by
  bv_omega

/-- An echo address has the target of the address 0x2000 below. -/
theorem State.target_echo_eq (s : State) {a : Word} (h : 0xE000 ≤ a.toNat) (h' : a.toNat ≤ 0xFDFF) :
    s.target a = s.target (a - 0x2000) := by
  have e := toNat_sub_echo h
  rw [State.target_echo h (by omega), State.target_wram (a := a - 0x2000) (by omega) (by omega), e, Nat.sub_sub]

/-- The OAM-DMA engine and the PPU treat both addresses alike: each is below FE00 and neither is in VRAM. -/
theorem State.blocks_echo (s : State) {a : Word} (h : 0xE000 ≤ a.toNat) (h' : a.toNat ≤ 0xFDFF) :
    s.dmaHidesRead a = s.dmaHidesRead (a - 0x2000) ∧ s.dmaDropsWrite a = s.dmaDropsWrite (a - 0x2000) ∧
    s.ppuBlocks a = s.ppuBlocks (a - 0x2000) := by
  have e := toNat_sub_echo h
  refine ⟨?_, ?_, ?_⟩ <;> rw [Bool.eq_iff_iff]
  · rw [State.dmaHidesRead_iff, State.dmaHidesRead_iff]
    exact and_congr_right fun _ => by omega
  · rw [State.dmaDropsWrite_iff, State.dmaDropsWrite_iff]
    exact and_congr_right fun _ => by omega
  · rw [State.ppuBlocks_iff, State.ppuBlocks_iff]; omega

/-- Settles O35: the two addresses have one target, and are blocked alike. -/
theorem echoIsWorkRam : Obligations.EchoIsWorkRam := by
  intro s a v h h'
  obtain ⟨hhides, hdrops, hppu⟩ := s.blocks_echo h h'
  have hread : s.rawRead a = s.rawRead (a - 0x2000) := by rw [State.rawRead, s.target_echo_eq h h', ← State.rawRead]
  have hwrite : s.rawWrite a v = s.rawWrite (a - 0x2000) v := by
    rw [State.rawWrite, s.target_echo_eq h h', ← State.rawWrite]
  exact ⟨hread, hwrite, by rw [State.cpuRead, hhides, hppu, hread, ← State.cpuRead],
    by rw [State.cpuWrite, hdrops, hppu, hwrite, ← State.cpuWrite]⟩

end Sys2Proof.Machine
end

section
/-! PROOFS. The M-cycle: its order (20_memory.md R110), and that a read leaves what an idle M-cycle leaves (R103). -/

namespace Sys2Proof.Machine

/-- Settles O38: the definitions in one piece; no unit counts an M-cycle or touches the bus trace. -/
theorem deviceTickOrder : Obligations.DeviceTickOrder := by
  intro s a v
  refine ⟨?_, ?_, rfl, ?_, ?_⟩
  · exact congrArg (fun n => { s.deviceTick with mcycles := n }) s.deviceTick_mcycles
  · simp only [State.memWrite, State.log, State.cpuWrite_trace, State.stallCheck_trace]
  · simp only [State.memReadState, State.log, State.stallCheck_trace]
  · simp only [State.idle, State.log, State.stallCheck_trace]

/-! ## The bus trace is an output: no unit reads it -/

/-- The state with another bus trace (R97). -/
def State.withTrace (s : State) (l : List BusEvent) : State := { s with trace := l }

theorem State.ppuDots_withTrace (n : Nat) (s : State) (l : List BusEvent) :
    State.ppuDots n (s.withTrace l) = (State.ppuDots n s).withTrace l := by
  induction n generalizing s with
  | zero => rfl
  | succ n ih => exact ih s.ppuDot

theorem State.deviceTick_withTrace (s : State) (l : List BusEvent) :
    (s.withTrace l).deviceTick = s.deviceTick.withTrace l := by
  have h := State.ppuDots_withTrace (Config.dotsPerMcycle s.doubleSpeed) s.oamDmaStep.timerStep l
  exact congrArg (fun u => u.serialStep.joypadStep.settle) h

/-- An M-cycle without a write is the stall check and the device tick, with its entry on the trace (R97, R110). -/
theorem State.tick_log (s : State) (e : BusEvent) :
    (s.stallCheck.log e).deviceTick = s.stallCheck.deviceTick.withTrace (e :: s.trace) := by
  rw [← s.stallCheck_trace, ← State.deviceTick_withTrace]; rfl

/-- Settles O37: a read and an idle M-cycle differ in the entry they put on the trace. -/
theorem readsHaveNoEffect : Obligations.ReadsHaveNoEffect := by
  intro s a
  rw [State.memReadState, State.idle, State.tick_log, State.tick_log]; rfl

end Sys2Proof.Machine
end

section
/-! PROOFS. A store and what the next access reads (20_memory.md R120); the memory map with its banks (R86 to R91, R94);
the registers as a program reads and writes them (10_state.md R47 to R79). -/

namespace Sys2Proof.Machine

theorem State.isCgb_iff {s : State} : s.isCgb = true ↔ s.params.model = .cgb := by
  simp [State.isCgb, Params.isCgb]

theorem State.isCgb_of_dmg {s : State} (h : s.params.model = .dmg) : s.isCgb = false := by
  simp [State.isCgb, Params.isCgb, h]

theorem State.cgbWrite_of_cgb {s : State} (h : s.params.model = .cgb) (t : State) : s.cgbWrite t = t :=
  if_pos (State.isCgb_iff.2 h)

theorem State.cgbOnly_of_cgb {s : State} (h : s.params.model = .cgb) (v : Byte) : s.cgbOnly v = v :=
  if_pos (State.isCgb_iff.2 h)

theorem State.cgbOnly_of_dmg {s : State} (h : s.params.model = .dmg) (v : Byte) : s.cgbOnly v = 0xFF := by
  rw [State.cgbOnly, State.isCgb_of_dmg h]; rfl

/-! ## A cell after a store -/

/-- The address decode depends on the model, the overlay and the bank registers only (R84, R87, R88). -/
theorem State.target_congr {s t : State} (hp : t.params = s.params) (hb : t.bootMapped = s.bootMapped)
    (hw : t.svbk = s.svbk) (hv : t.ppu.vbk = s.ppu.vbk) (a : Word) : t.target a = s.target a := by
  have hboot : t.bootShows = s.bootShows := by unfold State.bootShows State.isCgb; rw [hp, hb]
  have hvram : t.vramBank = s.vramBank := by unfold State.vramBank State.isCgb; rw [hp, hv]
  have hwram : t.wramKey = s.wramKey := by unfold State.wramKey State.wramBank State.isCgb; rw [hp, hw]
  unfold State.target; rw [hboot, hvram, hwram]

/-- A store to a cell leaves the address decode as it was. -/
theorem State.target_writeTarget {c : Target} (hc : c.isCell = true) (s : State) (v : Byte) (a : Word) :
    (s.writeTarget v c).target a = s.target a := by
  cases c with
  | boot | vram | wram | oam | hram => exact State.target_congr rfl rfl rfl rfl a
  | cart | unusable | io | ie => exact nomatch hc

/-- A cell of a RAM holds what was stored. -/
theorem State.readTarget_writeTarget_same {s : State} (h : s.Canonical) {c : Target} (hc : c.isCell = true)
    (hb : ∀ off, c ≠ .boot off) (v : Byte) : (s.writeTarget v c).readTarget c = v := by
  cases c with
  | boot off => exact absurd rfl (hb off)
  | vram k => exact Memory.read_write_same h.vram k v
  | wram k => exact Memory.read_write_same h.wram k v
  | oam k => exact Memory.read_write_same h.oam k v
  | hram k => exact Memory.read_write_same h.hram k v
  | cart | unusable | io | ie => exact nomatch hc

/-- A store to a cell changes no other target. -/
theorem State.readTarget_writeTarget_ne {s : State} (h : s.Canonical) {c d : Target} (hc : c.isCell = true)
    (hne : d ≠ c) (v : Byte) : (s.writeTarget v c).readTarget d = s.readTarget d := by
  cases c with
  | boot => rfl
  | vram k =>
    cases d with
    | vram j => exact Memory.read_write_ne h.vram (fun e => hne (congrArg Target.vram e)) v
    | _ => rfl
  | wram k =>
    cases d with
    | wram j => exact Memory.read_write_ne h.wram (fun e => hne (congrArg Target.wram e)) v
    | _ => rfl
  | oam k =>
    cases d with
    | oam j => exact Memory.read_write_ne h.oam (fun e => hne (congrArg Target.oam e)) v
    | _ => rfl
  | hram k =>
    cases d with
    | hram j => exact Memory.read_write_ne h.hram (fun e => hne (congrArg Target.hram e)) v
    | _ => rfl
  | cart | unusable | io | ie => exact nomatch hc

/-- A store is read back by the next access, and no address of another target reads it (R120). -/
theorem State.rawRead_rawWrite {s : State} (h : s.Canonical) {a : Word} (hc : (s.target a).isCell = true)
    (hb : ∀ off, s.target a ≠ .boot off) (b : Word) (v : Byte) :
    (s.rawWrite a v).rawRead a = v ∧ (s.target b ≠ s.target a → (s.rawWrite a v).rawRead b = s.rawRead b) := by
  refine ⟨?_, fun hne => ?_⟩
  · rw [State.rawRead, State.rawWrite, State.target_writeTarget hc]
    exact State.readTarget_writeTarget_same h hc hb v
  · rw [State.rawRead, State.rawWrite, State.target_writeTarget hc]
    exact State.readTarget_writeTarget_ne h hc hne v

/-! ## The map and its banks -/

theorem State.vramKey_eq (s : State) (off : Nat) :
    0x2000 * s.vramBank + off = (if s.params.model = .cgb then 0x2000 * s.ppu.vbk.toNat else 0) + off := by
  simp only [State.vramBank, State.isCgb_iff]; split <;> rfl

/-- SVBK 0 selects bank 1 (R88, D37). -/
theorem State.wramBank_eq (s : State) :
    0x1000 * s.wramBank = if s.params.model = .cgb ∧ s.svbk ≠ 0 then 0x1000 * s.svbk.toNat else 0x1000 := by
  have h0 : s.svbk = 0 ↔ s.svbk.toNat = 0 := by bv_omega
  simp only [State.wramBank, State.isCgb_iff, ne_eq, h0]
  grind

theorem State.wramKey_low (s : State) {off : Nat} (h : off < 0x1000) : s.wramKey off = off := if_pos h

theorem State.wramKey_high (s : State) {off : Nat} (h : 0x1000 ≤ off) :
    s.wramKey off = 0x1000 * s.wramBank + (off - 0x1000) := if_neg (Nat.not_lt.2 h)

theorem State.target_vramCell {s : State} {a : Word} (h : 0x8000 ≤ a.toNat) (h' : a.toNat < 0xA000) :
    s.target a = .vram ((if s.params.model = .cgb then 0x2000 * s.ppu.vbk.toNat else 0) + (a.toNat - 0x8000)) := by
  rw [State.target_vram h h', State.vramKey_eq]

theorem State.target_wramLow {s : State} {a : Word} (h : 0xC000 ≤ a.toNat) (h' : a.toNat < 0xD000) :
    s.target a = .wram (a.toNat - 0xC000) := by
  rw [State.target_wram h (by omega), State.wramKey_low _ (by omega)]

theorem State.target_wramHigh {s : State} {a : Word} (h : 0xD000 ≤ a.toNat) (h' : a.toNat < 0xE000) :
    s.target a = .wram ((if s.params.model = .cgb ∧ s.svbk ≠ 0 then 0x1000 * s.svbk.toNat else 0x1000) +
      (a.toNat - 0xD000)) := by
  rw [State.target_wram (by omega) h', State.wramKey_high _ (by omega), State.wramBank_eq, Nat.sub_sub]

/-! ## Registers -/

/-- FF00 + `r` is the address of no register on either model (R77, R92). -/
def NoRegister (r : Nat) : Prop :=
  r = 0x03 ∨ 0x08 ≤ r ∧ r ≤ 0x0E ∨ r = 0x4C ∨ r = 0x4E ∨ 0x57 ≤ r ∧ r ≤ 0x67 ∨ 0x6D ≤ r ∧ r ≤ 0x6F ∨ r = 0x71 ∨
    0x78 ≤ r ∧ r ≤ 0x7F

/-- FF00 + `r` belongs to the external unit on both models (R76). -/
def ExternalRegister (r : Nat) : Prop := 0x10 ≤ r ∧ r ≤ 0x3F ∨ 0x72 ≤ r ∧ r ≤ 0x75

theorem State.ioRead_of_noRegister {r : Nat} (h : NoRegister r) (s : State) : s.ioRead r = 0xFF := by
  unfold NoRegister at h
  have hext : s.isExtIo r = false := by simp only [State.isExtIo]; grind
  unfold State.ioRead
  split
  rotate_right
  · rw [hext]; rfl
  all_goals omega

theorem State.ioWrite_of_noRegister {r : Nat} (h : NoRegister r ∨ ExternalRegister r) (s : State) (v : Byte) :
    s.ioWrite r v = s := by
  unfold NoRegister ExternalRegister at h
  unfold State.ioWrite
  split
  rotate_right
  · rfl
  all_goals omega

/-- What a register's address gives and takes. -/
theorem State.raw_of_io {s t : State} {a : Word} {v x : Byte} (r : Nat) (ha : s.target a = .io r) (hr : s.ioRead r = x)
    (hw : s.ioWrite r v = t) : s.rawRead a = x ∧ s.rawWrite a v = t :=
  ⟨(State.rawRead_of ha).trans hr, (State.rawWrite_of ha v).trans hw⟩

/-- FF00 + `r`. -/
def ioAddress (r : Nat) : Word := BitVec.ofNat 16 (0xFF00 + r)

theorem State.target_ioAddress (s : State) {r : Nat} (h : r < 0x80) : s.target (ioAddress r) = .io r := by
  have e : (ioAddress r).toNat = 0xFF00 + r := Nat.mod_eq_of_lt (by omega)
  rw [State.target_io (by omega) (by omega), e, Nat.add_sub_cancel_left]

/-- An address of the I/O page reaches the register of its low seven bits. -/
theorem State.rawWrite_io (s : State) (v : Byte) {a : Word} (h : 0xFF00 ≤ a.toNat) (h' : a.toNat < 0xFF80) :
    s.rawWrite a v = s.ioWrite (a.toNat - 0xFF00) v := s.rawWrite_of (State.target_io h h') v

theorem State.raw_of_noRegister {a : Word} (h : 0xFF00 ≤ a.toNat) (hr : NoRegister (a.toNat - 0xFF00)) (s : State)
    (v : Byte) : s.rawRead a = 0xFF ∧ s.rawWrite a v = s := by
  have h' : a.toNat < 0xFF80 := by unfold NoRegister at hr; omega
  exact ⟨(State.rawRead_of (State.target_io h h')).trans (State.ioRead_of_noRegister hr s),
    (s.rawWrite_io v h h').trans (State.ioWrite_of_noRegister (.inl hr) s v)⟩

theorem Irq.readIf_eq (q : Irq) : q.readIf = (0b111 : BitVec 3) ++ q.flags := by
  unfold Irq.readIf; generalize q.flags = f; revert f; decide

theorem key1_byte (b c : Bool) :
    byteOfBits b true true true true true true c = bitOf b ++ (0b111111 : BitVec 6) ++ bitOf c := by
  cases b <;> cases c <;> rfl

/-- FF50 and HDMA1 to HDMA4 can be written only (R67, R70). -/
def writeOnlyRegisters : List Nat := [0x50, 0x51, 0x52, 0x53, 0x54]

theorem State.ioRead_writeOnly (s : State) : ∀ r ∈ writeOnlyRegisters, s.ioRead r = 0xFF := by
  have hext : ∀ r ∈ writeOnlyRegisters, ¬ s.isExtIo r = true := by simp [writeOnlyRegisters, State.isExtIo]
  simp only [writeOnlyRegisters, List.forall_mem_cons] at hext ⊢
  obtain ⟨h50, h51, h52, h53, h54, -⟩ := hext
  exact ⟨if_neg h50, if_neg h51, if_neg h52, if_neg h53, if_neg h54, nofun⟩

/-- The registers of the colour model, and those of the external unit that only it has (R45, R76, R92). -/
def colourRegisters : List Nat :=
  [0x4D, 0x4F, 0x51, 0x52, 0x53, 0x54, 0x55, 0x56, 0x68, 0x69, 0x6A, 0x6B, 0x6C, 0x70, 0x76, 0x77]

/-- On `Dmg` they do not exist. -/
theorem State.io_of_dmg {s : State} (hm : s.params.model = .dmg) (v : Byte) :
    ∀ r ∈ colourRegisters, s.ioRead r = 0xFF ∧ s.ioWrite r v = s := by
  have stored {r : Nat} {x : Byte} {t : State} (hr : s.ioRead r = s.cgbOnly x) (hw : s.ioWrite r v = s.cgbWrite t) :
      s.ioRead r = 0xFF ∧ s.ioWrite r v = s :=
    ⟨hr.trans (State.cgbOnly_of_dmg hm x), hw.trans (State.cgbWrite_of_dmg hm t)⟩
  have hdma {r : Nat} {t : State} (hr : r ∈ writeOnlyRegisters) (hw : s.ioWrite r v = s.cgbWrite t) :
      s.ioRead r = 0xFF ∧ s.ioWrite r v = s := ⟨s.ioRead_writeOnly r hr, hw.trans (State.cgbWrite_of_dmg hm t)⟩
  have external {r : Nat} (hr : r = 0x56 ∨ r = 0x76 ∨ r = 0x77) : s.ioRead r = 0xFF ∧ s.ioWrite r v = s := by
    have hext : ¬ s.isExtIo r = true := by
      simp only [State.isExtIo, State.isCgb_of_dmg hm]; rcases hr with rfl | rfl | rfl <;> decide
    rcases hr with rfl | rfl | rfl <;> exact ⟨if_neg hext, rfl⟩
  simp only [colourRegisters, List.forall_mem_cons]
  exact ⟨stored rfl rfl, stored rfl rfl, hdma (by decide) rfl, hdma (by decide) rfl, hdma (by decide) rfl,
    hdma (by decide) rfl, stored rfl rfl, external (by decide), stored rfl rfl, stored rfl rfl, stored rfl rfl,
    stored rfl rfl, stored rfl rfl, stored rfl rfl, external (by decide), external (by decide), nofun⟩

theorem State.raw_of_dmg {s : State} (hm : s.params.model = .dmg) (v : Byte) {a : Word}
    (ha : a ∈ colourRegisters.map ioAddress) : s.rawRead a = 0xFF ∧ s.rawWrite a v = s := by
  obtain ⟨r, hr, rfl⟩ := List.mem_map.1 ha
  have hlt : ∀ r ∈ colourRegisters, r < 0x80 := by decide
  obtain ⟨hread, hwrite⟩ := State.io_of_dmg hm v r hr
  exact State.raw_of_io r (s.target_ioAddress (hlt r hr)) hread hwrite

/-- Settles O36: a store and a read by their targets, the map by the ranges of the decode, the registers by their
numbers. -/
theorem writeThenRead : Obligations.WriteThenRead := by
  refine ⟨fun s a b v h hc hb => State.rawRead_rawWrite h.canonical hc hb b v, fun s a v => ?map, fun s v => ?registers⟩
  case map =>
    intro n vkey wkey
    refine ⟨fun h h' => State.raw_of (State.target_vramCell h h') v, fun h h' => State.raw_of (State.target_cartRam h h') v,
      fun h h' => State.raw_of (State.target_wramLow h h') v, fun h h' => State.raw_of (State.target_wramHigh h h') v,
      fun h h' => State.raw_of (State.target_oam h h') v, fun h h' => ⟨fun hm => ?_, ?_⟩,
      fun h h' => State.raw_of (State.target_hram h h') v⟩
    · rw [State.rawRead_of (State.target_unusable h h'), State.readTarget, State.isCgb_of_dmg hm]; rfl
    · exact State.rawWrite_of (State.target_unusable h h') v
  case registers =>
    intro p reg none
    have io {a : Word} {x : Byte} {t : State} (r : Nat) (ha : s.target a = .io r) (hr : s.ioRead r = x)
        (hw : s.ioWrite r v = t) : reg a x t := State.raw_of_io r ha hr hw
    refine ⟨io 0x01 rfl rfl rfl, io 0x0F rfl s.irq.readIf_eq rfl, ⟨rfl, rfl⟩, State.rawRead_of (t := .io 0x40) rfl,
      State.rawWrite_of (t := .io 0x41) rfl v, io 0x42 rfl rfl rfl, io 0x43 rfl rfl rfl, io 0x44 rfl rfl rfl,
      io 0x45 rfl rfl rfl, io 0x46 rfl rfl rfl, io 0x47 rfl rfl rfl, io 0x48 rfl rfl rfl, io 0x49 rfl rfl rfl,
      io 0x4A rfl rfl rfl, io 0x4B rfl rfl rfl, s.ioRead_writeOnly 0x50 (by decide), fun hm => ?cgb, fun hm a ha => ?dmg,
      fun a ha => ?noRegister, fun a ha => ?external⟩
    case cgb =>
      have cgb {a : Word} {x : Byte} {t : State} (r : Nat) (ha : s.target a = .io r) (hr : s.ioRead r = s.cgbOnly x)
          (hw : s.ioWrite r v = s.cgbWrite t) : reg a x t :=
        io r ha (hr.trans (State.cgbOnly_of_cgb hm x)) (hw.trans (State.cgbWrite_of_cgb hm t))
      have hdma {a : Word} {t : State} (r : Nat) (hr : r ∈ writeOnlyRegisters) (ha : s.target a = .io r)
          (hw : s.ioWrite r v = s.cgbWrite t) : reg a 0xFF t :=
        io r ha (s.ioRead_writeOnly r hr) (hw.trans (State.cgbWrite_of_cgb hm t))
      refine ⟨key1_byte .. ▸ cgb 0x4D rfl rfl rfl, cgb 0x4F rfl rfl rfl, hdma 0x51 (by decide) rfl rfl,
        hdma 0x52 (by decide) rfl rfl, hdma 0x53 (by decide) rfl rfl, hdma 0x54 (by decide) rfl rfl,
        cgb 0x6C rfl rfl rfl, cgb 0x70 rfl rfl rfl, ?_⟩
      simp only [List.forall_mem_cons]
      exact ⟨State.rawWrite_of (t := .io 0x56) rfl v, State.rawWrite_of (t := .io 0x76) rfl v,
        State.rawWrite_of (t := .io 0x77) rfl v, nofun⟩
    case dmg => exact State.raw_of_dmg hm v (show a ∈ colourRegisters.map ioAddress from ha)
    case noRegister =>
      simp only [BitVec.toNat_eq, BitVec.reduceToNat] at ha
      exact State.raw_of_noRegister (by omega) (by unfold NoRegister; omega) s v
    case external =>
      rw [State.rawWrite_io _ _ (by omega) (by omega)]
      exact State.ioWrite_of_noRegister (.inr (by unfold ExternalRegister; omega)) s v

end Sys2Proof.Machine
end

section
/-! PROOFS. The frame of an M-cycle: what a device tick, a VRAM-DMA stall and a CPU write leave as it was, of the memories
and of the registers outside the CPU (20_memory.md R94 to R96, R110). -/

namespace Sys2Proof.Machine

/-! ## What no M-cycle without a write changes -/

/-- The registers outside the CPU, and the memories but `vram` and `oam`: no device tick and no stall changes them. -/
def State.outer (s : State) : Untouched := { s.own with cpu := State.reset.cpu, trace := [] }

theorem State.outer_of_own {s t : State} (h : t.own = s.own) : t.outer = s.outer := by
  unfold State.outer; rw [h]

@[simp] theorem State.deviceTick_outer (s : State) : s.deviceTick.outer = s.outer := State.outer_of_own s.deviceTick_own
@[simp] theorem State.stallCheck_outer (s : State) : s.stallCheck.outer = s.outer := State.outer_of_own s.stallCheck_own
@[simp] theorem State.log_outer (s : State) (e : BusEvent) : (s.log e).outer = s.outer := rfl

theorem State.idle_outer (s : State) : s.idle.outer = s.outer := by simp [State.idle]

theorem State.memReadState_outer (s : State) (a : Word) : (s.memReadState a).outer = s.outer := by
  simp [State.memReadState]

section
variable {s t : State} (h : t.outer = s.outer)
include h

theorem State.target_of_outer (a : Word) : t.target a = s.target a :=
  State.target_congr (congrArg Untouched.params h) (congrArg Untouched.bootMapped h) (congrArg Untouched.svbk h)
    (congrArg (fun u => u.ppu.vbk) h) a

/-- The registers of the frame are all among them. -/
theorem KeepsRegisters.of_outer (but : List Target) : KeepsRegisters but s t where
  joypSelect _ := congrArg Untouched.select h
  scClock _ := ⟨congrArg Untouched.internal h, congrArg Untouched.fast h⟩
  tma _ := congrArg Untouched.tma h
  tac _ := congrArg Untouched.tac h
  lcdc _ := congrArg (fun u => u.ppu.lcdc) h
  statEnable _ := congrArg (fun u => u.ppu.statEnable) h
  scy _ := congrArg (fun u => u.ppu.scy) h
  scx _ := congrArg (fun u => u.ppu.scx) h
  lyc _ := congrArg (fun u => u.ppu.lyc) h
  dma _ := congrArg Untouched.page h
  bgp _ := congrArg (fun u => u.ppu.bgp) h
  obp0 _ := congrArg (fun u => u.ppu.obp0) h
  obp1 _ := congrArg (fun u => u.ppu.obp1) h
  wy _ := congrArg (fun u => u.ppu.wy) h
  wx _ := congrArg (fun u => u.ppu.wx) h
  key1 _ := congrArg Untouched.key1Armed h
  vbk _ := congrArg (fun u => u.ppu.vbk) h
  boot _ := congrArg Untouched.bootMapped h
  hdma1 _ := congrArg Untouched.hdma1 h
  hdma2 _ := congrArg Untouched.hdma2 h
  hdma3 _ := congrArg Untouched.hdma3 h
  hdma4 _ := congrArg Untouched.hdma4 h
  bcps _ _ := congrArg (fun u => u.ppu.bcps) h
  ocps _ _ := congrArg (fun u => u.ppu.ocps) h
  opri _ := congrArg (fun u => u.ppu.opri) h
  svbk _ := congrArg Untouched.svbk h
  ie _ := congrArg Untouched.ie h
  doubleSpeed := congrArg Untouched.doubleSpeed h
  params := congrArg Untouched.params h

end

/-- A cell reads by the memory it is in. -/
theorem State.readTarget_cell {s t : State} (hboot : t.bootRom = s.bootRom) (hvram : t.vram = s.vram)
    (hwram : t.wram = s.wram) (hoam : t.oam = s.oam) (hhram : t.hram = s.hram) {c : Target} (hc : c.isCell = true) :
    t.readTarget c = s.readTarget c := by
  cases c with
  | boot off => exact congrArg (·.read off) hboot
  | vram k => exact congrArg (·.read k) hvram
  | wram k => exact congrArg (·.read k) hwram
  | oam k => exact congrArg (·.read k) hoam
  | hram k => exact congrArg (·.read k) hhram
  | cart | unusable | io | ie => exact nomatch hc

/-- The memories are among them, but `vram` and `oam`. -/
theorem KeepsMemory.of_outer {s t : State} (h : t.outer = s.outer) (hvram : t.vram = s.vram) (hoam : t.oam = s.oam)
    (but : List Target) : KeepsMemory but s t where
  cells _ hc _ := State.readTarget_cell (congrArg Untouched.bootRom h) hvram (congrArg Untouched.wram h) hoam
    (congrArg Untouched.hram h) hc
  bgCram _ := congrArg Untouched.bgCram h
  objCram _ := congrArg Untouched.objCram h
  cart := congrArg Untouched.cart h
  bootRom := congrArg Untouched.bootRom h

/-! ## Frames compose -/

theorem KeepsMemory.trans {but : List Target} {s t u : State} (h : KeepsMemory but s t) (h' : KeepsMemory but t u) :
    KeepsMemory but s u where
  cells c hc hn := (h'.cells c hc hn).trans (h.cells c hc hn)
  bgCram hn := (h'.bgCram hn).trans (h.bgCram hn)
  objCram hn := (h'.objCram hn).trans (h.objCram hn)
  cart := h'.cart.trans h.cart
  bootRom := h'.bootRom.trans h.bootRom

theorem KeepsRegisters.trans {but : List Target} {s t u : State} (h : KeepsRegisters but s t)
    (h' : KeepsRegisters but t u) : KeepsRegisters but s u where
  joypSelect hn := (h'.joypSelect hn).trans (h.joypSelect hn)
  scClock hn := ⟨(h'.scClock hn).1.trans (h.scClock hn).1, (h'.scClock hn).2.trans (h.scClock hn).2⟩
  tma hn := (h'.tma hn).trans (h.tma hn)
  tac hn := (h'.tac hn).trans (h.tac hn)
  lcdc hn := (h'.lcdc hn).trans (h.lcdc hn)
  statEnable hn := (h'.statEnable hn).trans (h.statEnable hn)
  scy hn := (h'.scy hn).trans (h.scy hn)
  scx hn := (h'.scx hn).trans (h.scx hn)
  lyc hn := (h'.lyc hn).trans (h.lyc hn)
  dma hn := (h'.dma hn).trans (h.dma hn)
  bgp hn := (h'.bgp hn).trans (h.bgp hn)
  obp0 hn := (h'.obp0 hn).trans (h.obp0 hn)
  obp1 hn := (h'.obp1 hn).trans (h.obp1 hn)
  wy hn := (h'.wy hn).trans (h.wy hn)
  wx hn := (h'.wx hn).trans (h.wx hn)
  key1 hn := (h'.key1 hn).trans (h.key1 hn)
  vbk hn := (h'.vbk hn).trans (h.vbk hn)
  boot hn := (h'.boot hn).trans (h.boot hn)
  hdma1 hn := (h'.hdma1 hn).trans (h.hdma1 hn)
  hdma2 hn := (h'.hdma2 hn).trans (h.hdma2 hn)
  hdma3 hn := (h'.hdma3 hn).trans (h.hdma3 hn)
  hdma4 hn := (h'.hdma4 hn).trans (h.hdma4 hn)
  bcps hn hn' := (h'.bcps hn hn').trans (h.bcps hn hn')
  ocps hn hn' := (h'.ocps hn hn').trans (h.ocps hn hn')
  opri hn := (h'.opri hn).trans (h.opri hn)
  svbk hn := (h'.svbk hn).trans (h.svbk hn)
  ie hn := (h'.ie hn).trans (h.ie hn)
  doubleSpeed := h'.doubleSpeed.trans h.doubleSpeed
  params := h'.params.trans h.params

/-! ## A write to a register -/

/-- A write to LCDC changes LCDC and no other register that only software writes (R486). -/
theorem Ppu.storeLcdc_regs (p : Ppu) (v : Byte) : (p.storeLcdc v).regs = { p.regs with lcdc := v } := by
  unfold Ppu.storeLcdc
  dsimp only
  split
  · rfl
  · split
    · exact Ppu.beginLine_regs _
    · rfl

theorem State.statUpdate_outer (s : State) : s.statUpdate.outer = s.outer := by
  simp only [State.outer, State.own, State.untouched, State.statUpdate, Irq.requestIf_ie, Ppu.statUpdate_regs]

theorem State.writeLcdc_outer (s : State) (v : Byte) :
    (s.writeLcdc v).outer = ({ s with ppu := { s.ppu with lcdc := v } } : State).outer := by
  have hstore : ({ s with ppu := s.ppu.storeLcdc v } : State).outer =
      ({ s with ppu := { s.ppu with lcdc := v } } : State).outer :=
    congrArg (fun r => { s.outer with ppu := r }) (s.ppu.storeLcdc_regs v)
  unfold State.writeLcdc
  dsimp only
  split
  · exact (State.statUpdate_outer _).trans hstore
  · exact hstore

/-- HDMA1 to HDMA4 stay when a transfer begins (R452). -/
theorem VramDma.writeHdma5_hdma (d : VramDma) (v : Byte) : (d.writeHdma5 v).hdma1 = d.hdma1 ∧
    (d.writeHdma5 v).hdma2 = d.hdma2 ∧ (d.writeHdma5 v).hdma3 = d.hdma3 ∧ (d.writeHdma5 v).hdma4 = d.hdma4 := by
  unfold VramDma.writeHdma5
  dsimp only
  split
  · exact ⟨rfl, rfl, rfl, rfl⟩
  · split <;> exact ⟨rfl, rfl, rfl, rfl⟩

theorem KeepsRegisters.statUpdate {but : List Target} {s t : State} (h : KeepsRegisters but s t) :
    KeepsRegisters but s t.statUpdate := h.trans (.of_outer t.statUpdate_outer but)

theorem KeepsRegisters.cgbWrite {but : List Target} {s t : State} (h : KeepsRegisters but s t) :
    KeepsRegisters but s (s.cgbWrite t) := by
  unfold State.cgbWrite; split
  · exact h
  · exact .of_outer rfl but

/-- A write to a register changes no other register of the frame. -/
theorem State.ioWrite_keepsRegisters {but : List Target} {r : Nat} (hit : Target.io r ∈ but) (s : State) (v : Byte) :
    KeepsRegisters but s (s.ioWrite r v) := by
  have k : KeepsRegisters but s s := .of_outer rfl but
  have out {p : Prop} (hn : Target.io r ∉ but) : p := absurd hit hn
  obtain ⟨h1, h2, h3, h4⟩ := s.vdma.writeHdma5_hdma v
  unfold State.ioWrite
  split
  · exact { k with joypSelect := out }
  · exact { k with }
  · exact { k with scClock := out }
  · exact { k with tma := fun _ => Timer.edge_tma _ _, tac := fun _ => Timer.edge_tac _ _ }
  · exact { k with }
  · exact { k with tma := out }
  · exact { k with tma := fun _ => Timer.edge_tma _ _, tac := out }
  · exact { k with }
  · exact KeepsRegisters.trans (t := { s with ppu := { s.ppu with lcdc := v } }) { k with lcdc := out }
      (.of_outer (s.writeLcdc_outer v) but)
  · exact .statUpdate { k with statEnable := out }
  · exact { k with scy := out }
  · exact { k with scx := out }
  · exact .statUpdate { k with lyc := out }
  · exact { k with dma := out }
  · exact { k with bgp := out }
  · exact { k with obp0 := out }
  · exact { k with obp1 := out }
  · exact { k with wy := out }
  · exact { k with wx := out }
  · exact .cgbWrite { k with key1 := out }
  · exact .cgbWrite { k with vbk := out }
  · exact { k with boot := out }
  · exact .cgbWrite { k with hdma1 := out }
  · exact .cgbWrite { k with hdma2 := out }
  · exact .cgbWrite { k with hdma3 := out }
  · exact .cgbWrite { k with hdma4 := out }
  · exact .cgbWrite { k with hdma1 := fun _ => h1, hdma2 := fun _ => h2, hdma3 := fun _ => h3, hdma4 := fun _ => h4 }
  · exact .cgbWrite { k with bcps := fun hn => out hn }
  · exact .cgbWrite { k with bcps := fun _ hn => out hn }
  · exact .cgbWrite { k with ocps := fun hn => out hn }
  · exact .cgbWrite { k with ocps := fun _ hn => out hn }
  · exact .cgbWrite { k with opri := out }
  · exact .cgbWrite { k with svbk := out }
  · exact k

/-- What a write to a register can change: the devices' registers; colour RAM through its ports only, and the OAM-DMA
engine through DMA only. -/
theorem State.ioWrite_eq (s : State) (r : Nat) (v : Byte) :
    s.ioWrite r v =
      { s with
        irq := (s.ioWrite r v).irq, timer := (s.ioWrite r v).timer, joypad := (s.ioWrite r v).joypad
        serial := (s.ioWrite r v).serial, vdma := (s.ioWrite r v).vdma, ppu := (s.ioWrite r v).ppu
        bootMapped := (s.ioWrite r v).bootMapped, svbk := (s.ioWrite r v).svbk, key1Armed := (s.ioWrite r v).key1Armed
        oamDma := if r = 0x46 then s.oamDma.write v else s.oamDma
        bgCram := if r = 0x69 then (s.ioWrite r v).bgCram else s.bgCram
        objCram := if r = 0x6B then (s.ioWrite r v).objCram else s.objCram } := by
  unfold State.ioWrite
  split
  all_goals first
    | rfl
    | (unfold State.cgbWrite; split <;> rfl)
    | (unfold State.writeLcdc; dsimp only; split <;> rfl)
    | rw [if_neg ‹r = 0x46 → False›, ite_self, ite_self]

/-- Only a write to HDMA5 can start or end a VRAM-DMA (R452). -/
theorem State.ioWrite_vdma {r : Nat} (h : r ≠ 0x55) (s : State) (v : Byte) :
    (s.ioWrite r v).vdma.mode = s.vdma.mode ∧ (s.ioWrite r v).vdma.stallBlocks = s.vdma.stallBlocks := by
  unfold State.ioWrite
  split
  all_goals first
    | exact ⟨rfl, rfl⟩
    | exact absurd rfl h
    | (unfold State.cgbWrite; split <;> exact ⟨rfl, rfl⟩)
    | (unfold State.writeLcdc; dsimp only; split <;> exact ⟨rfl, rfl⟩)

theorem State.ioWrite_keepsMemory {but : List Target} {r : Nat} (hit : Target.io r ∈ but) (s : State) (v : Byte) :
    KeepsMemory but s (s.ioWrite r v) := by
  have e := s.ioWrite_eq r v
  have hbg (hn : Target.io 0x69 ∉ but) : r ≠ 0x69 := fun h => hn (h ▸ hit)
  have hobj (hn : Target.io 0x6B ∉ but) : r ≠ 0x6B := fun h => hn (h ▸ hit)
  exact
    { cells := fun c hc _ => State.readTarget_cell (s := s) (t := s.ioWrite r v) (congrArg State.bootRom e :)
        (congrArg State.vram e :) (congrArg State.wram e :) (congrArg State.oam e :) (congrArg State.hram e :) hc
      bgCram := fun hn => (congrArg State.bgCram e :).trans (if_neg (hbg hn))
      objCram := fun hn => (congrArg State.objCram e :).trans (if_neg (hobj hn))
      cart := (congrArg State.cart e :)
      bootRom := (congrArg State.bootRom e :) }

/-! ## A write to a target -/

theorem State.writeTarget_keepsRegisters {but : List Target} {c : Target} (hit : c ∈ but) (s : State) (v : Byte) :
    KeepsRegisters but s (s.writeTarget v c) := by
  have k : KeepsRegisters but s s := .of_outer rfl but
  cases c with
  | io r => exact s.ioWrite_keepsRegisters hit v
  | ie => exact { k with ie := fun hn => absurd hit hn }
  | boot | cart | vram | wram | oam | unusable | hram => exact { k with }

theorem State.writeTarget_keepsMemory {s : State} (h : s.Canonical) {but : List Target} {c : Target} (hit : c ∈ but)
    (v : Byte) : KeepsMemory but s (s.writeTarget v c) := by
  have k : KeepsMemory but s s := .of_outer rfl rfl rfl but
  have cell (hc : c.isCell = true) (d : Target) (_ : d.isCell = true) (hn : d ∉ but) :
      (s.writeTarget v c).readTarget d = s.readTarget d :=
    State.readTarget_writeTarget_ne h hc (fun e => hn (by rwa [e])) v
  cases c with
  | io r => exact s.ioWrite_keepsMemory hit v
  | boot | vram | wram | oam | hram => exact { k with cells := cell rfl }
  | cart | unusable => exact k
  | ie =>
    have cells {d : Target} : d.isCell = true → (s.writeTarget v .ie).readTarget d = s.readTarget d :=
      State.readTarget_cell (s := s) (t := s.writeTarget v .ie) rfl rfl rfl rfl rfl
    exact { k with cells := fun _ hc _ => cells hc }

/-- A CPU write is dropped, or a write to the target of its address (R96). -/
theorem State.cpuWrite_cases {P : State → Prop} {s : State} {a : Word} {v : Byte} (dropped : P s)
    (written : P (s.writeTarget v (s.target a))) : P (s.cpuWrite a v) := by
  unfold State.cpuWrite; split
  · exact dropped
  · exact written

theorem State.cpuWrite_keepsRegisters {but : List Target} {s : State} {a : Word} (hit : s.target a ∈ but) (v : Byte) :
    KeepsRegisters but s (s.cpuWrite a v) :=
  State.cpuWrite_cases (P := KeepsRegisters but s) (.of_outer rfl but) (s.writeTarget_keepsRegisters hit v)

theorem State.cpuWrite_keepsMemory {but : List Target} {s : State} (h : s.Canonical) {a : Word}
    (hit : s.target a ∈ but) (v : Byte) : KeepsMemory but s (s.cpuWrite a v) :=
  State.cpuWrite_cases (P := KeepsMemory but s) (.of_outer rfl rfl rfl but) (s.writeTarget_keepsMemory h hit v)

/-- The OAM-DMA engine after a CPU write: a write to DMA requests a transfer, any other leaves it (R431). -/
theorem State.cpuWrite_oamDma (s : State) (a : Word) (v : Byte) :
    (s.cpuWrite a v).oamDma = s.oamDma ∨ s.target a = .io 0x46 ∧ (s.cpuWrite a v).oamDma = s.oamDma.write v := by
  refine State.cpuWrite_cases (P := fun t => t.oamDma = s.oamDma ∨ s.target a = .io 0x46 ∧ t.oamDma = s.oamDma.write v)
    (.inl rfl) ?_
  cases ht : s.target a with
  | io r =>
    have e : (s.ioWrite r v).oamDma = if r = 0x46 then s.oamDma.write v else s.oamDma :=
      congrArg State.oamDma (s.ioWrite_eq r v)
    by_cases h : r = 0x46
    · exact .inr ⟨congrArg Target.io h, e.trans (if_pos h)⟩
    · exact .inl (e.trans (if_neg h))
  | boot | cart | vram | wram | oam | unusable | hram | ie => exact .inl rfl

/-- The VRAM-DMA engine after a CPU write: only HDMA5 on `Cgb` starts or ends a transfer. -/
theorem State.cpuWrite_vdma {s : State} {a : Word} (h : s.params.model = .dmg ∨ s.target a ≠ .io 0x55) (v : Byte) :
    (s.cpuWrite a v).vdma.mode = s.vdma.mode ∧ (s.cpuWrite a v).vdma.stallBlocks = s.vdma.stallBlocks := by
  refine State.cpuWrite_cases
    (P := fun t => t.vdma.mode = s.vdma.mode ∧ t.vdma.stallBlocks = s.vdma.stallBlocks) ⟨rfl, rfl⟩ ?_
  cases ht : s.target a with
  | io r =>
    by_cases h55 : r = 0x55
    · subst h55
      rw [State.writeTarget, show s.ioWrite 0x55 v = s from State.cgbWrite_of_dmg (h.resolve_right (· ht)) _]
      exact ⟨rfl, rfl⟩
    · exact s.ioWrite_vdma h55 v
  | boot | cart | vram | wram | oam | unusable | hram | ie => exact ⟨rfl, rfl⟩

/-! ## The DMA engines in a device tick -/

theorem State.deviceTick_oamDma (s : State) :
    s.deviceTick.oamDma = { s.oamDma.step with writtenThisCycle := false } := by
  have : ∀ n (t : State), (State.ppuDots n t).oamDma = t.oamDma := State.ppuDots_keeps State.oamDma fun _ => rfl
  show { (State.ppuDots _ s.oamDmaStep.timerStep).oamDma with writtenThisCycle := false } = _
  rw [this]; rfl

/-- Only an active OAM-DMA changes `oam` in a tick (R432). -/
theorem State.deviceTick_oam {s : State} (h : s.oamDma.status ≠ .active) : s.deviceTick.oam = s.oam := by
  have : ∀ n (t : State), (State.ppuDots n t).oam = t.oam := State.ppuDots_keeps State.oam fun _ => rfl
  show (State.ppuDots _ s.oamDmaStep.timerStep).oam = _
  rw [this]; exact if_neg h

/-- Without a VRAM-DMA under way no block becomes due (R453). -/
theorem State.deviceTick_vdma {s : State} (h : s.vdma.mode = .idle) : s.deviceTick.vdma = s.vdma := by
  have dots : ∀ n (t : State), t.vdma.mode = .idle → (State.ppuDots n t).vdma = t.vdma := by
    intro n
    induction n with
    | zero => exact fun _ _ => rfl
    | succ n ih =>
      intro t ht
      have hdot : t.ppuDot.vdma = t.vdma := by
        show (if _ then _ else _) = _
        rw [VramDma.hblankTrigger_of_idle ht, ite_self]
      exact (ih t.ppuDot (hdot ▸ ht)).trans hdot
  exact dots _ s.oamDmaStep.timerStep h

/-- An idle engine stays idle. -/
theorem OamDma.step_of_idle {d : OamDma} (h : d.status = .idle) : d.step = d := by
  unfold OamDma.step; rw [h]

/-- No byte is copied in the M-cycle of a write to DMA, and the transfer is not under way after it (R432). -/
theorem OamDma.step_write (d : OamDma) (v : Byte) : (d.write v).step = d.write v := rfl

/-! ## Cycles without a write -/

/-- `t` has the memories and registers of `s`, and no DMA is under way in it: nothing was stored between them. -/
structure Unchanged (s t : State) : Prop where
  outer : t.outer = s.outer
  vram : t.vram = s.vram
  oam : t.oam = s.oam
  quiet : t.DmaQuiet

theorem State.DmaQuiet.stallCheck {s : State} (h : s.DmaQuiet) : s.stallCheck = s := State.stallCheck_of_zero h.stall

theorem State.DmaQuiet.deviceTick {s : State} (h : s.DmaQuiet) : s.deviceTick.DmaQuiet where
  oam := by rw [State.deviceTick_oamDma, OamDma.step_of_idle h.oam]; exact h.oam
  mode := s.deviceTick_vdmaMode.trans h.mode
  stall := (congrArg VramDma.stallBlocks (State.deviceTick_vdma h.mode)).trans h.stall

theorem State.DmaQuiet.not_active {s : State} (h : s.DmaQuiet) : s.oamDma.status ≠ .active := by
  rw [h.oam]; nofun

theorem Unchanged.refl {s : State} (h : s.DmaQuiet) : Unchanged s s := ⟨rfl, rfl, rfl, h⟩

namespace Unchanged

variable {s t : State} (h : Unchanged s t)
include h

theorem cpu (c : Cpu) : Unchanged s { t with cpu := c } := ⟨h.outer, h.vram, h.oam, { h.quiet with }⟩

theorem tick (e : BusEvent) : Unchanged s (t.stallCheck.log e).deviceTick := by
  rw [h.quiet.stallCheck]
  have hq : (t.log e).DmaQuiet := { h.quiet with }
  exact
    { outer := (State.deviceTick_outer _).trans h.outer
      vram := (State.deviceTick_vram _).trans h.vram
      oam := (State.deviceTick_oam hq.not_active).trans h.oam
      quiet := hq.deviceTick }

theorem idle : Unchanged s t.idle := h.tick _
theorem read (a : Word) : Unchanged s (t.memReadState a) := h.tick _

theorem memory (but : List Target) : KeepsMemory but s t := .of_outer h.outer h.vram h.oam but
theorem registers (but : List Target) : KeepsRegisters but s t := .of_outer h.outer but

end Unchanged

end Sys2Proof.Machine
end

section
/-! PROOFS. The frame of the forms that store nothing (20_memory.md R94 to R96, R110; 46_cpu_control.md R322). -/

namespace Sys2Proof.Machine

/-! ## Forms that store nothing -/

/-- The shapes that store nothing and do not touch the speed: all but the stores, the read-modify-writes at HL, the pushes
and `STOP`. -/
def Form.storesNothing : Form → Bool
  | .storeReg .. | .storeImm _ | .storeBump _ | .storeSp _ | .push _ | .incMem | .decMem | .rotMem _ | .resMem _
  | .setBitMem _ | .runCb _ | .call _ | .callIf .. | .rst _ | .stop => false
  | _ => true

namespace Unchanged

variable {s t : State} (h : Unchanged s t)
include h

theorem pop16 : Unchanged s t.pop16.2 := (((h.read _).cpu _).read _).cpu _
theorem ret : Unchanged s t.ret := ((h.pop16).cpu _).idle

theorem onCond (cc : Cond) {f : State → State} (hf : Unchanged s (f t)) : Unchanged s (State.onCond cc f t) := by
  unfold State.onCond; split
  · exact hf
  · exact h

theorem halt : Unchanged s t.halt := by
  unfold State.halt; split <;> exact h.cpu _

theorem ei : Unchanged s t.ei := by
  unfold State.ei; split
  · exact h.cpu _
  · exact h

theorem stopOperand : Unchanged s t.stopOperand := by
  unfold State.stopOperand; split
  · exact (h.read _).cpu _
  · exact h

theorem idles (n : Nat) : Unchanged s (State.idles n t) := by
  induction n generalizing t with
  | zero => exact h
  | succ n ih => exact ih h.idle

end Unchanged

/-- A shape that stores nothing is built from updates of the CPU, reads and idle M-cycles. -/
theorem Unchanged.form {s t : State} (hs : s.DmaQuiet) {f : Form} (hf : f.storesNothing = true) (e : f.run s = .next t) :
    Unchanged s t := by
  have h : Unchanged s s := .refl hs
  have get {u : State} (eq : Host.Outcome.next u = f.run s) (hu : Unchanged s u) : Unchanged s t :=
    Host.Outcome.next.inj (eq.trans e) ▸ hu
  cases f with
  | storeReg | storeImm | storeBump | storeSp | push | incMem | decMem | rotMem | resMem | setBitMem | runCb | call | callIf
  | rst | stop => exact nomatch hf
  | illegal => exact nomatch e
  | nop => exact get rfl h
  | setReg | copyReg | setPair | alu | aluReg | incReg | decReg | daa | cpl | scf | ccf | rotA | rotReg | testReg | resReg
  | setBitReg | jumpHl | di => exact get rfl (h.cpu _)
  | loadReg | loadBump | aluMem | testMem => exact get rfl ((h.read _).cpu _)
  | spFromHl | leaHl | addHl | incPair | decPair | jump | jumpRel => exact get rfl (h.idle.cpu _)
  | addSp => exact get rfl (h.idle.idle.cpu _)
  | pop => exact get rfl (h.pop16.cpu _)
  | jumpIf cc | jumpRelIf cc => exact get rfl (h.onCond cc (h.idle.cpu _))
  | ret => exact get rfl h.ret
  | retIf cc => exact get rfl (h.idle.onCond cc h.idle.ret)
  | reti => exact get rfl ((h.pop16.cpu _).idle.cpu _)
  | halt => exact get rfl h.halt
  | ei => exact get rfl h.ei

/-! ## `STOP` -/

theorem KeepsMemory.speed (but : List Target) (s : State) (d k : Bool) :
    KeepsMemory but s { s with doubleSpeed := d, key1Armed := k } where
  cells _ hc _ := State.readTarget_cell (s := s) (t := { s with doubleSpeed := d, key1Armed := k }) rfl rfl rfl rfl rfl hc
  bgCram _ := rfl
  objCram _ := rfl
  cart := rfl
  bootRom := rfl

/-- The speed switch changes KEY1 and the speed, whatever the number of its idle M-cycles (R322). -/
theorem Unchanged.switchSpeed_keeps {s t : State} (h : Unchanged s t) (n : Nat) :
    let u := State.idles n { t with doubleSpeed := !t.doubleSpeed, key1Armed := false }
    KeepsMemory [] s u ∧ KeepsRegisters [.io 0x4D] s { u with doubleSpeed := t.doubleSpeed } := by
  intro u
  have hq : ({ t with doubleSpeed := !t.doubleSpeed, key1Armed := false } : State).DmaQuiet := { h.quiet with }
  have hi : Unchanged _ u := (Unchanged.refl hq).idles n
  have k : KeepsRegisters [.io 0x4D] t t := .of_outer rfl _
  have hswitch : KeepsRegisters [.io 0x4D] t { t with key1Armed := false } :=
    { k with key1 := fun hn => absurd (List.mem_singleton_self _) hn }
  refine ⟨((h.memory []).trans (.speed [] t _ _)).trans (hi.memory []), ((h.registers _).trans hswitch).trans ?_⟩
  exact .of_outer (congrArg (fun o => { o with doubleSpeed := t.doubleSpeed }) hi.outer) _

/-- `STOP` changes KEY1 and the speed at most (R322). -/
theorem State.DmaQuiet.stop_keeps {s : State} (hs : s.DmaQuiet) : KeepsMemory [] s s.stop ∧
    KeepsRegisters [.io 0x4D] s { s.stop with doubleSpeed := s.doubleSpeed } := by
  have h : Unchanged s s.stopOperand := (Unchanged.refl hs).stopOperand
  have hspeed : s.stopOperand.doubleSpeed = s.doubleSpeed := congrArg Untouched.doubleSpeed h.outer
  unfold State.stop
  dsimp only
  rw [← hspeed]
  split
  · exact h.switchSpeed_keeps _
  · exact ⟨h.memory [], h.registers _⟩

/-- Settles O31: each listed instruction has a shape that stores nothing, or is `STOP`. -/
theorem frameWithoutStore : Obligations.FrameWithoutStore := by
  intro s t i hs e hi
  have hlisted : (Instr.form i).storesNothing = true ∨ i = .stop := by
    rcases hi with ⟨dst, r, rfl⟩ | ⟨r, n, rfl⟩ | ⟨r, rfl⟩ | ⟨p, nn, rfl⟩ | ⟨p, rfl⟩ | ⟨op, x, rfl⟩ | ⟨r, rfl⟩ | ⟨r, rfl⟩ |
      ⟨p, rfl⟩ | ⟨p, rfl⟩ | ⟨p, rfl⟩ | ⟨op, r, rfl⟩ | ⟨b, r, rfl⟩ | ⟨b, rfl⟩ | ⟨b, r, rfl⟩ | ⟨b, r, rfl⟩ | ⟨cc, d, rfl⟩ |
      ⟨cc, nn, rfl⟩ | ⟨cc, rfl⟩ | ⟨d, hd⟩ | ⟨nn, hnn⟩ | hmem
    · left; cases dst <;> cases r <;> rfl
    · left; cases r <;> rfl
    · left; cases r <;> rfl
    · left; cases p <;> rfl
    · left; cases p <;> rfl
    · left; cases x with
      | reg r => cases op <;> cases r <;> rfl
      | mem | imm => cases op <;> rfl
    · left; cases r <;> rfl
    · left; cases r <;> rfl
    · left; cases p <;> rfl
    · left; cases p <;> rfl
    · left; cases p <;> rfl
    · left; cases op <;> cases r <;> rfl
    · left; cases b <;> cases r <;> rfl
    · left; cases b <;> rfl
    · left; cases b <;> cases r <;> rfl
    · left; cases b <;> cases r <;> rfl
    · left; cases cc <;> rfl
    · left; cases cc <;> rfl
    · left; cases cc <;> rfl
    · left; rcases hd with rfl | rfl | rfl | rfl <;> rfl
    · left; rcases hnn with rfl | rfl <;> rfl
    · clear e; revert i; decide
  rcases hlisted with hf | rfl
  · have h : Unchanged s t := .form hs hf (exec_form i s ▸ e)
    have hne : i ≠ .stop := fun he => by rw [he] at hf; exact nomatch hf
    exact ⟨h.memory [], fun _ => h.registers [], fun he => absurd he hne⟩
  · obtain rfl : s.stop = t := Host.Outcome.next.inj e
    obtain ⟨hmemory, hregisters⟩ := hs.stop_keeps
    exact ⟨hmemory, fun hne => absurd rfl hne, fun _ => hregisters⟩

end Sys2Proof.Machine
end

section
/-! PROOFS. The frames of the forms that store one byte and of those that store two (20_memory.md R81, R96, R110). -/

namespace Sys2Proof.Machine

/-! ## A write M-cycle -/

/-- The state between the stall check and the device tick of a write M-cycle still has no OAM-DMA under way. -/
theorem State.cpuWrite_not_active {s : State} (h : s.oamDma.status ≠ .active) (a : Word) (v : Byte) :
    (s.cpuWrite a v).oamDma.status ≠ .active := by
  rcases s.cpuWrite_oamDma a v with e | ⟨-, e⟩ <;> rw [e]
  · exact h
  · nofun

theorem State.memWrite_outer (s : State) (a : Word) (v : Byte) :
    (s.memWrite a v).outer = (s.stallCheck.cpuWrite a v).outer := State.deviceTick_outer _

/-- A write M-cycle changes no register of the frame but its target (R96, R110). -/
theorem State.memWrite_keepsRegisters {but : List Target} {s : State} {a : Word} (hit : s.target a ∈ but) (v : Byte) :
    KeepsRegisters but s (s.memWrite a v) := by
  have hstall : KeepsRegisters but s s.stallCheck := .of_outer s.stallCheck_outer but
  rw [← State.target_of_outer s.stallCheck_outer] at hit
  exact (hstall.trans (State.cpuWrite_keepsRegisters hit v)).trans (.of_outer (s.memWrite_outer a v) but)

/-- After its stall check, with no OAM-DMA under way, it changes no byte of memory but its target. -/
theorem State.memWrite_keepsMemory {but : List Target} {s : State} (hc : s.stallCheck.Canonical)
    (hd : s.stallCheck.oamDma.status ≠ .active) {a : Word} (hit : s.target a ∈ but) (v : Byte) :
    KeepsMemory but s.stallCheck (s.memWrite a v) := by
  rw [← State.target_of_outer s.stallCheck_outer] at hit
  have hoam : (s.memWrite a v).oam = (s.stallCheck.cpuWrite a v).oam :=
    State.deviceTick_oam (s := (s.stallCheck.cpuWrite a v).log _) (State.cpuWrite_not_active hd a v)
  exact (State.cpuWrite_keepsMemory hc hit v).trans
    (.of_outer (s.memWrite_outer a v) (State.deviceTick_vram _) hoam but)

/-! ## One store -/

/-- `s` with the CPU `c`. -/
def State.withCpu (s : State) (c : Cpu) : State := { s with cpu := c }

theorem State.withCpu_self (s : State) : s.withCpu s.cpu = s := rfl

theorem KeepsMemory.withCpu {but : List Target} {s t : State} (h : KeepsMemory but s t) (c : Cpu) :
    KeepsMemory but s (t.withCpu c) := h.trans (.of_outer (s := t) (t := t.withCpu c) rfl rfl rfl but)

theorem KeepsRegisters.withCpu {but : List Target} {s t : State} (h : KeepsRegisters but s t) (c : Cpu) :
    KeepsRegisters but s (t.withCpu c) := h.trans (.of_outer (s := t) (t := t.withCpu c) rfl but)

/-- After cycles that stored nothing, a store changes its target only. -/
theorem Unchanged.memWrite {s u : State} (h : Unchanged s u) (hc : u.Canonical) {but : List Target} {a : Word}
    (hit : s.target a ∈ but) (v : Byte) :
    KeepsMemory but s (u.memWrite a v) ∧ KeepsRegisters but s (u.memWrite a v) := by
  rw [← State.target_of_outer h.outer] at hit
  have hmemory : KeepsMemory but u.stallCheck (u.memWrite a v) :=
    State.memWrite_keepsMemory (by rwa [h.quiet.stallCheck]) (by rw [h.quiet.stallCheck]; exact h.quiet.not_active) hit v
  rw [h.quiet.stallCheck] at hmemory
  exact ⟨(h.memory but).trans hmemory, (h.registers but).trans (State.memWrite_keepsRegisters hit v)⟩

theorem Unchanged.oneStore {s u t : State} (h : Unchanged s u) (hc : u.Canonical) {a : Word} {v : Byte}
    (e : t = u.memWrite a v) : KeepsMemory [s.target a] s t ∧ KeepsRegisters [s.target a] s t :=
  e ▸ h.memWrite hc (List.mem_singleton_self _) v

/-- The same with an update of the CPU after the store. -/
theorem Unchanged.oneStoreCpu {s u t : State} (h : Unchanged s u) (hc : u.Canonical) {a : Word} {v : Byte} {c : Cpu}
    (e : t = (u.memWrite a v).withCpu c) : KeepsMemory [s.target a] s t ∧ KeepsRegisters [s.target a] s t := by
  obtain ⟨hmemory, hregisters⟩ := h.oneStore hc rfl
  exact e ▸ ⟨hmemory.withCpu c, hregisters.withCpu c⟩

/-- What an instruction of shape `f` leaves. -/
theorem exec_next {i : Instr} {f : Form} {s t u : State} (e : exec i s = .next t) (hf : Instr.form i = f)
    (hu : f.run s = .next u) : t = u := by
  rw [exec_form, hf, hu] at e
  exact (Host.Outcome.next.inj e).symm

/-- Settles O32: each form is a store at once, or a read and a store at HL. -/
theorem frameOfOneStore : Obligations.FrameOfOneStore := by
  intro s t i a hmem hs e hi
  have h : Unchanged s s := .refl hs
  have hc : s.Canonical := hmem.canonical
  have hr : Unchanged s (s.memReadState s.cpu.hl) := h.read _
  have hrc : (s.memReadState s.cpu.hl).Canonical := State.canonical_stepStable.read _ _ hc
  rcases hi with ⟨r, rfl, rfl⟩ | ⟨n, rfl, rfl⟩ | ⟨rfl, rfl⟩ | ⟨rfl, rfl⟩ | ⟨rfl, rfl⟩ | ⟨rfl, rfl⟩ | rfl | ⟨n, rfl, rfl⟩ |
    ⟨rfl, rfl⟩ | ⟨rfl, rfl⟩ | ⟨rfl, rfl⟩ | ⟨op, rfl, rfl⟩ | ⟨b, rfl, rfl⟩ | ⟨b, rfl, rfl⟩
  · exact h.oneStore hc (exec_next (f := .storeReg r .hl) e (by cases r <;> rfl) rfl)
  · exact h.oneStore hc (exec_next (f := .storeImm n) e rfl rfl)
  · exact h.oneStore hc (exec_next (f := .storeReg .a .bc) e rfl rfl)
  · exact h.oneStore hc (exec_next (f := .storeReg .a .de) e rfl rfl)
  · exact h.oneStoreCpu hc (exec_next (f := .storeBump 1) e rfl rfl)
  · exact h.oneStoreCpu hc (exec_next (f := .storeBump (-1)) e rfl rfl)
  · exact h.oneStore hc (exec_next (f := .storeReg .a (.abs a)) e rfl rfl)
  · exact h.oneStore hc (exec_next (f := .storeReg .a (.high n)) e rfl rfl)
  · exact h.oneStore hc (exec_next (f := .storeReg .a .highC) e rfl rfl)
  · exact hr.oneStoreCpu hrc (exec_next (f := .incMem) e rfl rfl)
  · exact hr.oneStoreCpu hrc (exec_next (f := .decMem) e rfl rfl)
  · exact hr.oneStoreCpu hrc (exec_next (f := .rotMem op) e (by cases op <;> rfl) rfl)
  · exact hr.oneStore hrc (exec_next (f := .resMem b) e (by cases b <;> rfl) rfl)
  · exact hr.oneStore hrc (exec_next (f := .setBitMem b) e (by cases b <;> rfl) rfl)

/-! ## Two stores -/

/-- A property that a copied byte, a device tick and the end of a block keep is kept by the stall check (R465, R466). -/
theorem State.stallCheck_preserves {P : State → Prop} (copy : ∀ s : State, P s → P s.vdmaCopyByte)
    (tick : ∀ s : State, P s → P s.deviceTick) (done : ∀ s : State, P s → P { s with vdma := s.vdma.blockDone })
    {s : State} (h : P s) : P s.stallCheck := by
  have bytes (n : Nat) {u : State} (hu : P u) : P (State.vdmaCopyBytes n u) := by
    induction n generalizing u with
    | zero => exact hu
    | succ n ih => exact ih (copy _ hu)
  have cycles (k n : Nat) {u : State} (hu : P u) : P (State.vdmaCycles k n u) := by
    induction n generalizing u with
    | zero => exact hu
    | succ n ih => exact ih (tick _ (bytes k hu))
  have blocks (n : Nat) {u : State} (hu : P u) : P (State.vdmaBlocks n u) := by
    induction n generalizing u with
    | zero => exact hu
    | succ n ih =>
      unfold State.vdmaBlocks; split
      · exact hu
      · exact ih (done _ (cycles _ _ hu))
  unfold State.stallCheck; split
  · exact blocks _ h
  · exact h

/-- No OAM-DMA is under way, and `oam` is `m`. -/
def State.OamAt (m : Memory) (s : State) : Prop := s.oamDma.status = .idle ∧ s.oam = m

/-- A stall during which no OAM-DMA is under way leaves `oam`. -/
theorem State.stallCheck_oamAt {m : Memory} {s : State} (h : s.OamAt m) : s.stallCheck.OamAt m := by
  refine State.stallCheck_preserves (fun _ hu => hu) (fun u hu => ?_) (fun _ hu => hu) h
  obtain ⟨hidle, hoam⟩ := hu
  refine ⟨?_, (State.deviceTick_oam (by rw [hidle]; nofun)).trans hoam⟩
  rw [State.deviceTick_oamDma, OamDma.step_of_idle hidle]
  exact hidle

namespace State.DmaQuiet

variable {s : State} (h : s.DmaQuiet)
include h

/-- After a store no block is due, unless it was to HDMA5 on `Cgb`. -/
theorem memWrite_stall {a : Word} (ha : s.params.model = .dmg ∨ s.target a ≠ .io 0x55) (v : Byte) :
    (s.memWrite a v).vdma.stallBlocks = 0 := by
  obtain ⟨hmode, hstall⟩ := State.cpuWrite_vdma ha v
  have hvdma : (s.memWrite a v).vdma = (s.cpuWrite a v).vdma := by
    rw [State.memWrite, h.stallCheck]
    exact State.deviceTick_vdma (s := (s.cpuWrite a v).log _) (hmode.trans h.mode)
  rw [hvdma, hstall, h.stall]

/-- After a store no OAM-DMA is under way, and one is requested only by a store to DMA. -/
theorem memWrite_status (a : Word) (v : Byte) : (s.memWrite a v).oamDma.status = .idle ∨
    s.target a = .io 0x46 ∧ (s.memWrite a v).oamDma.status = .requested := by
  have hdma : (s.memWrite a v).oamDma = { (s.cpuWrite a v).oamDma.step with writtenThisCycle := false } := by
    rw [State.memWrite, h.stallCheck]
    exact State.deviceTick_oamDma _
  rw [hdma]
  rcases s.cpuWrite_oamDma a v with e | ⟨ht, e⟩ <;> rw [e]
  · refine .inl ?_
    rw [OamDma.step_of_idle h.oam]
    exact h.oam
  · exact .inr ⟨ht, rfl⟩

end State.DmaQuiet

/-- What the stall check after a first store leaves: everything but `vram`, and `vram` too unless the store was to HDMA5
on `Cgb`. -/
theorem State.DmaQuiet.stall_after_memWrite {s : State} (h : s.DmaQuiet) (a : Word) (v : Byte) (c : Cpu) :
    ((s.memWrite a v).withCpu c).stallCheck.oamDma.status ≠ .active ∧
    ((s.memWrite a v).withCpu c).stallCheck.oam = ((s.memWrite a v).withCpu c).oam ∧
    (s.params.model = .dmg ∨ s.target a ≠ .io 0x55 →
      ((s.memWrite a v).withCpu c).stallCheck = (s.memWrite a v).withCpu c) := by
  have hnone (ha : s.params.model = .dmg ∨ s.target a ≠ .io 0x55) :
      ((s.memWrite a v).withCpu c).stallCheck = (s.memWrite a v).withCpu c :=
    State.stallCheck_of_zero (h.memWrite_stall ha v)
  rcases h.memWrite_status a v with hidle | ⟨ht, hrequested⟩
  · obtain ⟨hstatus, hoam⟩ := State.stallCheck_oamAt (s := (s.memWrite a v).withCpu c) ⟨hidle, rfl⟩
    exact ⟨(fun hactive => nomatch hstatus.symm.trans hactive), hoam, hnone⟩
  · rw [hnone (.inr (by rw [ht]; decide))]
    exact ⟨(fun hactive => nomatch hrequested.symm.trans hactive), rfl, fun _ => rfl⟩

/-! ### A CPU write does not look at the CPU -/

theorem State.cgbWrite_withCpu (s : State) {t t' : State} {c : Cpu} (h : t' = t.withCpu c) :
    (s.withCpu c).cgbWrite t' = (s.cgbWrite t).withCpu c :=
  h ▸ (apply_ite (fun u : State => u.withCpu c) (s.isCgb = true) t s).symm

theorem State.writeLcdc_withCpu (s : State) (c : Cpu) (v : Byte) :
    (s.withCpu c).writeLcdc v = (s.writeLcdc v).withCpu c :=
  (apply_ite (fun u : State => u.withCpu c) (s.ppu.lcdcSwitchesOn v = true)
    ({ s with ppu := s.ppu.storeLcdc v } : State).statUpdate { s with ppu := s.ppu.storeLcdc v }).symm

theorem State.ioWrite_withCpu (s : State) (c : Cpu) (r : Nat) (v : Byte) :
    (s.withCpu c).ioWrite r v = (s.ioWrite r v).withCpu c := by
  unfold State.ioWrite
  split
  all_goals first
    | rfl
    | exact s.writeLcdc_withCpu c v
    | exact s.cgbWrite_withCpu rfl

theorem State.rawWrite_withCpu (s : State) (c : Cpu) (a : Word) (v : Byte) :
    (s.withCpu c).rawWrite a v = (s.rawWrite a v).withCpu c := by
  show (s.withCpu c).writeTarget v (s.target a) = (s.writeTarget v (s.target a)).withCpu c
  cases s.target a with
  | io r => exact s.ioWrite_withCpu c r v
  | _ => rfl

theorem State.cpuWrite_withCpu (s : State) (c : Cpu) (a : Word) (v : Byte) :
    (s.withCpu c).cpuWrite a v = (s.cpuWrite a v).withCpu c := by
  rw [State.cpuWrite, State.rawWrite_withCpu]
  exact (apply_ite (fun u : State => u.withCpu c) _ _ _).symm

/-- Two stores after cycles that stored nothing, with updates of the CPU before, between and after them: what the
statement about such forms says. -/
def KeepsButTwo (s u t : State) (a b : Word) (v : Byte) : Prop :=
  let but := [u.target a, (u.memWrite a v).target b]
  KeepsRegisters but s t ∧
  (s.params.model = .dmg ∨ u.target a ≠ .io 0x55 → KeepsMemory but s t) ∧
  (∀ c : Target, c.isCell = true → c ∉ but → (∀ k, c ≠ .vram k) → t.readTarget c = s.readTarget c)

/-- Nothing stored is nothing changed. -/
theorem Unchanged.keepsButTwo {s t : State} (h : Unchanged s t) (u : State) (a b : Word) (v : Byte) :
    KeepsButTwo s u t a b v :=
  ⟨h.registers _, fun _ => h.memory _, fun c hc hn _ => (h.memory _).cells c hc hn⟩

/-- A stall leaves every cell outside `vram`, when it leaves `oam`. -/
theorem State.readTarget_stallCheck {s : State} (hoam : s.stallCheck.oam = s.oam) {c : Target} (hc : c.isCell = true)
    (hvram : ∀ k, c ≠ .vram k) : s.stallCheck.readTarget c = s.readTarget c := by
  cases c with
  | vram k => exact absurd rfl (hvram k)
  | oam k => exact congrArg (·.read k) hoam
  | boot off => exact congrArg (fun o => o.bootRom.read off) s.stallCheck_outer
  | wram k => exact congrArg (fun o => o.wram.read k) s.stallCheck_outer
  | hram k => exact congrArg (fun o => o.hram.read k) s.stallCheck_outer
  | cart | unusable | io | ie => exact nomatch hc

/-- The first store is one after nothing stored. The second comes after a stall check, which changes `vram` at most, and
nothing when no VRAM-DMA began. -/
theorem Unchanged.twoStores {s u : State} (h : Unchanged s u) (hc : u.Canonical) (c₁ c₂ c₃ : Cpu) (a b : Word)
    (v w : Byte) :
    KeepsButTwo s u (((((u.withCpu c₁).memWrite a v).withCpu c₂).memWrite b w).withCpu c₃) a b v := by
  unfold KeepsButTwo
  intro but
  have h₁ : Unchanged s (u.withCpu c₁) := h.cpu c₁
  have hq : (u.withCpu c₁).DmaQuiet := h₁.quiet
  have hc₁ : (u.withCpu c₁).Canonical := State.canonical_stepStable.cpu _ _ hc
  have hit₁ : s.target a ∈ but := by
    rw [← State.target_of_outer h.outer]; exact List.mem_cons_self
  obtain ⟨hmemory, hregisters⟩ := h₁.memWrite hc₁ hit₁ v
  replace hmemory := hmemory.withCpu c₂
  replace hregisters := hregisters.withCpu c₂
  obtain ⟨hactive, hoam, hstall⟩ := hq.stall_after_memWrite a v c₂
  have hc₂ : (((u.withCpu c₁).memWrite a v).withCpu c₂).Canonical :=
    State.canonical_stepStable.cpu _ c₂ (State.canonical_stepStable.write _ a v hc₁)
  have hout : (((u.withCpu c₁).memWrite a v).withCpu c₂).outer = (u.memWrite a v).outer := by
    show ((u.withCpu c₁).memWrite a v).outer = _
    rw [State.memWrite_outer, State.memWrite_outer, hq.stallCheck, h.quiet.stallCheck, State.cpuWrite_withCpu]; rfl
  have hit₂ : (((u.withCpu c₁).memWrite a v).withCpu c₂).target b ∈ but := by
    rw [State.target_of_outer hout]; exact List.mem_cons_of_mem _ List.mem_cons_self
  have hsecond := (State.memWrite_keepsMemory (State.canonical_stallCheck hc₂) hactive hit₂ w).withCpu c₃
  refine ⟨(hregisters.trans (State.memWrite_keepsRegisters hit₂ w)).withCpu c₃, fun hdma => ?_, fun c hcell hn hvram => ?_⟩
  · have hmodel : u.params = s.params := congrArg Untouched.params h.outer
    have e := hstall (hdma.imp_left fun hm => (congrArg Params.model hmodel).trans hm)
    rw [e] at hsecond
    exact hmemory.trans hsecond
  · exact (hsecond.cells c hcell hn).trans
      ((State.readTarget_stallCheck hoam hcell hvram).trans (hmemory.cells c hcell hn))

/-- `Push16` after cycles that stored nothing. -/
theorem Unchanged.push16 {s u : State} (h : Unchanged s u) (hc : u.Canonical) (w : Word) (c : Cpu) :
    KeepsButTwo s u ((u.push16 w).withCpu c) (u.cpu.sp - 1) (u.cpu.sp - 2) (hiByte w) := by
  have hsp : u.cpu.sp - 2 = u.cpu.sp - 1 - 1 := by bv_omega
  rw [State.push16_eq, hsp]
  exact h.twoStores hc _ _ c _ _ _ _

/-- Settles O33: each form is two stores, at SP after an idle M-cycle or at `nn`; a call that is not taken stores nothing. -/
theorem frameOfTwoStores : Obligations.FrameOfTwoStores := by
  intro s t i u a b v hmem hs e hi
  show KeepsButTwo s u t a b v
  have h : Unchanged s s := .refl hs
  have hc : s.Canonical := hmem.canonical
  have pushed (w : Word) (c : Cpu) :
      KeepsButTwo s s.idle ((s.idle.push16 w).withCpu c) (s.cpu.sp - 1) (s.cpu.sp - 2) (hiByte w) := by
    rw [← s.idle_cpu]; exact h.idle.push16 (State.canonical_stepStable.idle _ hc) w c
  have called (nn : Word) : KeepsButTwo s s.idle (s.call nn) (s.cpu.sp - 1) (s.cpu.sp - 2) (hiByte s.cpu.pc) :=
    pushed s.cpu.pc { (s.idle.push16 s.cpu.pc).cpu with pc := nn }
  rcases hi with ⟨p, rfl, rfl, rfl, rfl, rfl⟩ | ⟨nn, rfl, rfl, rfl, rfl, rfl⟩ | ⟨cc, nn, rfl, rfl, rfl, rfl, rfl⟩ |
    ⟨y, rfl, rfl, rfl, rfl, rfl⟩ | ⟨nn, rfl, hu, ha, hv, rfl⟩
  · rw [exec_next (f := .push p) e (by cases p <;> rfl) rfl]
    have k := pushed (s.stkPair p) (s.idle.push16 (s.stkPair p)).cpu
    rwa [State.withCpu_self] at k
  · rw [exec_next (f := .call nn) e rfl rfl]
    exact called nn
  · rw [exec_next (f := .callIf cc nn) e (by cases cc <;> rfl) rfl, State.onCond]
    split
    · exact called nn
    · exact h.keepsButTwo _ _ _ _
  · rw [exec_next (f := .rst y) e (by cases y <;> rfl) rfl]
    exact called _
  · rw [exec_next (f := .storeSp nn) e rfl rfl, hu, ha, hv]
    have k := h.twoStores hc s.cpu (s.memWrite nn (loByte s.cpu.sp)).cpu (s.storeSp nn).cpu nn (nn + 1)
      (loByte s.cpu.sp) (hiByte s.cpu.sp)
    rwa [State.withCpu_self, State.withCpu_self, ← State.storeSp, State.withCpu_self] at k

end Sys2Proof.Machine
end

section
/-! PROOFS. The boot overlay (20_memory.md R84 to R86; 10_state.md R67): what it shows, and that no step maps it again. -/

namespace Sys2Proof.Machine

theorem State.bootShows_of_unmapped {s : State} (h : s.bootMapped = false) (n : Nat) : s.bootShows n = false := by
  simp [State.bootShows, h]

theorem State.bootShows_iff {s : State} (h : s.bootMapped = true) (n : Nat) :
    s.bootShows n = true ↔ n < 0x100 ∨ s.params.model = .cgb ∧ 0x200 ≤ n ∧ n < 0x900 := by
  simp [State.bootShows, h, State.isCgb_iff, and_assoc]

/-- A mapped overlay shows nothing in the header window, and on `Dmg` nothing above it (R84). -/
theorem State.bootShows_eq_false {s : State} (h : s.bootMapped = true) {n : Nat}
    (hn : 0x100 ≤ n ∧ n < 0x200 ∨ s.params.model = .dmg ∧ 0x200 ≤ n ∧ n < 0x8000 ∨ 0x900 ≤ n ∧ n < 0x8000) :
    s.bootShows n = false := by
  rw [Bool.eq_false_iff, ne_eq, State.bootShows_iff h]
  rintro (hlow | ⟨hm, h2, h9⟩)
  · omega
  · rcases hn with hn | ⟨hd, -⟩ | hn
    · omega
    · rw [hm] at hd; exact nomatch hd
    · omega

/-- A write M-cycle leaves an unmapped overlay unmapped: only FF50 touches it, and FF50 can only unmap. -/
theorem State.memWrite_unmapped {s : State} (h : s.bootMapped = false) (a : Word) (v : Byte) :
    (s.memWrite a v).bootMapped = false := by
  have hstall : s.stallCheck.bootMapped = false := (congrArg Untouched.bootMapped s.stallCheck_outer).trans h
  have hwrite : (s.stallCheck.cpuWrite a v).bootMapped = false := by
    refine State.cpuWrite_cases (P := fun t => t.bootMapped = false) hstall ?_
    by_cases ht : s.stallCheck.target a = .io 0x50
    · rw [ht]
      show (s.stallCheck.bootMapped && _) = false
      rw [hstall, Bool.false_and]
    · have k := s.stallCheck.writeTarget_keepsRegisters (List.mem_singleton_self (s.stallCheck.target a)) v
      exact (k.boot (fun hn => ht (List.mem_singleton.1 hn).symm)).trans hstall
  exact (congrArg Untouched.bootMapped (s.memWrite_outer a v)).trans hwrite

theorem State.unmapped_stepStable : StepStable (fun s => s.bootMapped = false) where
  cpu _ _ h := h
  idle s h := (congrArg Untouched.bootMapped s.idle_outer).trans h
  read s a h := (congrArg Untouched.bootMapped (s.memReadState_outer a)).trans h
  write _ a v h := State.memWrite_unmapped h a v
  speed _ _ h := h
  begin s h := by unfold State.beginStep; split <;> exact h
  ack _ _ h := h

/-- Settles O39: the decode below 8000 is the overlay or the cartridge, and every step keeps the overlay unmapped. -/
theorem bootOverlay : Obligations.BootOverlay := by
  refine ⟨fun s a v h => ⟨fun ha => ?_, fun ha => ?_⟩, fun s a v h ha => ?_, fun s v => ?_, fun s t e h => ?_⟩
  · exact State.raw_of (State.target_boot (by omega) ((State.bootShows_iff h _).2 ha)) v
  · exact State.raw_of (State.target_rom (by omega) (State.bootShows_eq_false h ha)) v
  · exact State.raw_of (State.target_rom ha (State.bootShows_of_unmapped h _)) v
  · rw [State.rawWrite_of (t := .io 0x50) rfl]
    show ({ s with bootMapped := s.bootMapped && !v.getLsbD 0 } : State) = _
    cases v.getLsbD 0 <;> simp
  · exact State.unmapped_stepStable.step h e

end Sys2Proof.Machine
end

section
/-! PROOFS. Decoding and encoding are inverse (30_encoding.md R140 to R155): `Spells` says which bytes the two tables
give an instruction; decoding reads such bytes off the front, and `encode` gives no others. -/

namespace Sys2Proof

/-- `bs` are the bytes of `i` by the two tables: the opcode's entry, and the bytes its format asks for (R140, R142). -/
inductive Spells : List Byte → Instr → Prop where
  | op {op : Byte} {i : Instr} (h : primaryEntry op = .op i) : Spells [op] i
  | imm {op : Byte} {f : Byte → Instr} (h : primaryEntry op = .imm f) (n : Byte) : Spells [op, n] (f n)
  | imm16 {op : Byte} {f : Word → Instr} (h : primaryEntry op = .imm16 f) (lo hi : Byte) :
      Spells [op, lo, hi] (f (wordOf hi lo))
  | cb {op : Byte} (h : primaryEntry op = .cbPrefix) (op2 : Byte) : Spells [op, op2] (cbInstr op2)

/-! ## Decoding reads the bytes of one instruction -/

theorem exists_spells_of_decode {bs rest : List Byte} {i : Instr} (h : decode bs = .ok (i, rest)) :
    ∃ word, Spells word i ∧ bs = word ++ rest := by
  unfold decode at h
  split at h
  · exact nomatch h
  · next op tail =>
    split at h <;> cases h
    · next he => exact ⟨_, .op he, rfl⟩
    · next he => exact ⟨_, .imm he _, rfl⟩
    · next he => exact ⟨_, .imm16 he _ _, rfl⟩
    · next he => exact ⟨_, .cb he _, rfl⟩

/-- Bytes that decode to an instruction with nothing left are its bytes. -/
theorem spells_of_decode {bs : List Byte} {i : Instr} (h : decode bs = .ok (i, [])) : Spells bs i := by
  obtain ⟨word, hw, rfl⟩ := exists_spells_of_decode h
  rwa [List.append_nil]

/-! ## Encoding gives the bytes by the tables -/

/-- An entry's instruction with the immediates `n` and `nn`; the row `PREFIX_CB` stands for itself. -/
def Entry.withImm (n : Byte) (nn : Word) : Entry → Instr
  | .op i => i
  | .imm f => f n
  | .imm16 f => f nn
  | .cbPrefix => .prefixCB n

/-- The bytes of `Entry.withImm` at opcode `op` (R142, R144). -/
def Entry.bytes (op n : Byte) (nn : Word) : Entry → List Byte
  | .op _ => [op]
  | .imm _ => [op, n]
  | .imm16 _ => [op, loByte nn, hiByte nn]
  | .cbPrefix => [op, n]

/-- A row of the primary table encodes to its own bytes: its 16 cells are computed. -/
theorem encode_row (n : Byte) (nn : Word) {row : Nat} (h : row < 16) :
    (List.range 16).map (fun col => encode ((primaryEntry (BitVec.ofNat 8 (16 * row + col))).withImm n nn)) =
      (List.range 16).map fun col =>
        (primaryEntry (BitVec.ofNat 8 (16 * row + col))).bytes (BitVec.ofNat 8 (16 * row + col)) n nn :=
  match row, h with
  | 0, _ | 1, _ | 2, _ | 3, _ | 4, _ | 5, _ | 6, _ | 7, _ => rfl
  | 8, _ | 9, _ | 10, _ | 11, _ | 12, _ | 13, _ | 14, _ | 15, _ => rfl
  | k + 16, h => absurd h (Nat.not_lt.2 (Nat.le_add_left 16 k))

theorem encode_withImm (op n : Byte) (nn : Word) :
    encode ((primaryEntry op).withImm n nn) = (primaryEntry op).bytes op n nn := by
  have cells := encode_row n nn (row := op.toNat / 16) (by omega)
  have cell := List.map_inj_left.1 cells (op.toNat % 16) (List.mem_range.2 (Nat.mod_lt _ (by decide)))
  rwa [Nat.div_add_mod, BitVec.ofNat_toNat, BitVec.setWidth_eq] at cell

theorem cbInstr_wellFormed_and_encode :
    ∀ op2 : Byte, WellFormed (cbInstr op2) ∧ encode (cbInstr op2) = [0xCB, op2] := by
  decide +kernel

/-- Only the byte `CB` is looked up in the CB table (R140, R325). -/
theorem eq_of_cbPrefix {op : Byte} (h : primaryEntry op = .cbPrefix) : op = 0xCB := by
  have e := encode_withImm op 0 0
  rw [h] at e
  exact (List.cons.inj e).1.symm

/-- Bytes whose first is no `CB` are not those of the one ill-formed row, `PREFIX_CB` (R325). -/
theorem wellFormed_of_encode {i : Instr} {op : Byte} {tail : List Byte} (h : encode i = op :: tail)
    (hop : primaryEntry op ≠ .cbPrefix) : WellFormed i := by
  unfold WellFormed Instr.isPrefix
  split
  · cases h
    exact absurd rfl hop
  · rfl

theorem Entry.bytes_eq_cons (op n : Byte) (nn : Word) (e : Entry) : ∃ tail, e.bytes op n nn = op :: tail := by
  cases e <;> exact ⟨_, rfl⟩

theorem withImm_wellFormed_and_encode {op : Byte} {e : Entry} (h : primaryEntry op = e) (he : e ≠ .cbPrefix)
    (n : Byte) (nn : Word) : WellFormed (e.withImm n nn) ∧ encode (e.withImm n nn) = e.bytes op n nn := by
  subst h
  obtain ⟨tail, htail⟩ := (primaryEntry op).bytes_eq_cons op n nn
  have henc := encode_withImm op n nn
  exact ⟨wellFormed_of_encode (henc.trans htail) he, henc⟩

/-- What the tables spell is well-formed and encodes to those bytes. -/
theorem wellFormed_and_encode_of_spells {bs : List Byte} {i : Instr} (h : Spells bs i) :
    WellFormed i ∧ encode i = bs := by
  cases h with
  | op h => exact withImm_wellFormed_and_encode h nofun 0 0
  | imm h n => exact withImm_wellFormed_and_encode h nofun n 0
  | imm16 h lo hi =>
    simpa [Entry.withImm, Entry.bytes] using withImm_wellFormed_and_encode h nofun 0 (wordOf hi lo)
  | cb h op2 => exact eq_of_cbPrefix h ▸ cbInstr_wellFormed_and_encode op2

/-! ## The two are inverse -/

theorem decode_imm16 {op : Byte} {f : Word → Instr} (h : primaryEntry op = .imm16 f) (nn : Word) (rest : List Byte) :
    decode (op :: loByte nn :: hiByte nn :: rest) = .ok (f nn, rest) := by
  simp [decode, h, Machine.wordOf_hi_lo]

/-- Settles O1, by the constructors: a 16-bit immediate is cut into bytes and joined again; in any other format
decoding the bytes is a computation. -/
theorem decodeOfEncode : Obligations.DecodeOfEncode := by
  intro i rest h
  cases i
  case prefixCB => exact nomatch h
  case ldBCnn nn | ldDEnn nn | ldHLnn nn | ldSPnn nn | ldMemNnSP nn | ldMemNnA nn | ldAMemNn nn | jpnn nn | jpNZnn nn |
      jpZnn nn | jpNCnn nn | jpCnn nn | callnn nn | callNZnn nn | callZnn nn | callNCnn nn | callCnn nn =>
    exact decode_imm16 rfl nn rest
  all_goals rfl

/-- Settles O2: the bytes read are those of the tables, and `encode` gives those. -/
theorem encodeOfDecode : Obligations.EncodeOfDecode := by
  intro bs rest i h
  obtain ⟨word, hw, rfl⟩ := exists_spells_of_decode h
  obtain ⟨hwf, rfl⟩ := wellFormed_and_encode_of_spells hw
  exact ⟨hwf, rfl⟩

/-- Settles O3: each word is the encoding of the instruction it stands for. -/
theorem wordsDecode : Obligations.WordsDecode :=
  ⟨decodeOfEncode .ldAB [] rfl, decodeOfEncode (.ldAn 0x42) [] rfl, decodeOfEncode (.ldHLnn 0x1234) [] rfl,
    decodeOfEncode .adcAE [] rfl, decodeOfEncode (.jrNZe 0xFC) [] rfl, decodeOfEncode (.callnn 0x0200) [] rfl,
    decodeOfEncode .swapA [] rfl, decodeOfEncode .res3MemHL [] rfl, decodeOfEncode .illegalDD [] rfl⟩

end Sys2Proof
end

section
/-! PROOFS. The step of a running CPU by the bytes it fetches (30_encoding.md R141, R145; 60_exceptions.md R350). -/

namespace Sys2Proof.Machine

@[simp] theorem State.beginStep_cpu (s : State) : s.beginStep.cpu = s.cpu := by
  unfold State.beginStep; split <;> rfl

/-! ## Fetching the bytes of an instruction -/

/-- One M-cycle for the opcode when it is the whole instruction. -/
theorem State.fetchInstr_of_one {s : State} {i : Instr} (h : Spells [s.fetchOpcode.1] i) :
    s.fetchInstr = (i, s.fetchOpcode.2) := by
  cases h with
  | op h => simp [State.fetchInstr, instrLength, decodeBytes, h, Entry.length, Entry.instr]

/-- A second M-cycle for an 8-bit operand, or for the byte that the CB table is read at. -/
theorem State.fetchInstr_of_two {s : State} {i : Instr} (h : Spells [s.fetchOpcode.1, s.fetchOpcode.2.fetch8.1] i) :
    s.fetchInstr = (i, s.fetchOpcode.2.fetch8.2) := by
  cases h with
  | imm h n => simp [State.fetchInstr, instrLength, decodeBytes, h, Entry.length, Entry.instr]
  | cb h op2 => simp [State.fetchInstr, instrLength, decodeBytes, h, Entry.length, Entry.instr]

/-- A third for the high byte of a 16-bit operand. -/
theorem State.fetchInstr_of_three {s : State} {i : Instr}
    (h : Spells [s.fetchOpcode.1, s.fetchOpcode.2.fetch8.1, s.fetchOpcode.2.fetch8.2.fetch8.1] i) :
    s.fetchInstr = (i, s.fetchOpcode.2.fetch8.2.fetch8.2) := by
  cases h with
  | imm16 h lo hi => simp [State.fetchInstr, instrLength, decodeBytes, h, Entry.length, Entry.instr]

/-! ## The step -/

/-- What a step that began with `ime` makes of the outcome of its instruction (R350). -/
def finishStep (ime : Ime) : Result → Result
  | .next t => (t.promoteIme (decide (ime = .pending))).endStep
  | .fault r => .fault r
  | .refused r => .refused r

theorem step_of_fetchInstr {s u : State} {i : Instr} (hrun : s.cpu.halted = false)
    (h : s.beginStep.fetchInstr = (i, u)) : step s = finishStep s.cpu.ime (exec i u) := by
  have hb : ¬ s.beginStep.cpu.halted = true := by simp [hrun]
  have e : step s = finishStep s.beginStep.cpu.ime (exec s.beginStep.fetchInstr.1 s.beginStep.fetchInstr.2) := if_neg hb
  rw [e, h, State.beginStep_cpu]

/-- Settles O5: bytes that decode with nothing left are an instruction's bytes, and their number says where the fetch
ends. -/
theorem stepRunsDecoded : Obligations.StepRunsDecoded := by
  intro s i hrun b f g h finish
  refine ⟨fun hbug => ?_, fun hbug => ?_, fun e => ?_, fun e => ?_, fun e => ?_⟩
  · have hb : b.cpu.haltBugPending = false := by rw [State.beginStep_cpu, hbug]
    show b.fetchOpcode = _
    rw [State.fetchOpcode_of_not hb, State.fetch8, State.beginStep_cpu]
  · have hb : b.cpu.haltBugPending = true := by rw [State.beginStep_cpu, hbug]
    show b.fetchOpcode = _
    rw [State.fetchOpcode_of_bug hb, State.beginStep_cpu]
  · exact step_of_fetchInstr hrun (State.fetchInstr_of_one (spells_of_decode e))
  · exact step_of_fetchInstr hrun (State.fetchInstr_of_two (spells_of_decode e))
  · exact step_of_fetchInstr hrun (State.fetchInstr_of_three (spells_of_decode e))

end Sys2Proof.Machine
end

section
/-! PROOFS. The 8-bit loads and the loads of immediates (40_load8.md R170 to R189; 41_load16.md R200): their bytes and
M-cycles, and what they leave, by their shapes. -/

namespace Sys2Proof.Machine

/-! ## Shapes, bytes and M-cycles of each family -/

theorem Instr.form_ldRegReg (dst r : Reg) : Instr.form (Instr.ldRegReg dst r) = .copyReg dst r := by
  cases dst <;> cases r <;> rfl

theorem Instr.form_ldRegImm (dst : Reg) (n : Byte) : Instr.form (Instr.ldRegImm dst n) = .setReg dst n := by
  cases dst <;> rfl

theorem Instr.form_ldRegMem (dst : Reg) : Instr.form (Instr.ldRegMem dst) = .loadReg dst .hl := by cases dst <;> rfl

theorem Instr.form_ldMemReg (r : Reg) : Instr.form (Instr.ldMemReg r) = .storeReg r .hl := by cases r <;> rfl

theorem Instr.form_ldPairImm (p : Pair) (nn : Word) : Instr.form (Instr.ldPairImm p nn) = .setPair p nn := by
  cases p <;> rfl

theorem published_ldRegReg (dst r : Reg) : Published (.ldRegReg dst r) [opcode 0b01 dst.code r.code] 1 := by
  cases dst <;> cases r <;> exact ⟨rfl, fun _ => rfl⟩

theorem published_ldRegImm (dst : Reg) (n : Byte) :
    Published (.ldRegImm dst n) [opcode 0b00 dst.code 0b110, n] 2 := by
  cases dst <;> exact ⟨rfl, fun _ => rfl⟩

theorem published_ldRegMem (dst : Reg) : Published (.ldRegMem dst) [opcode 0b01 dst.code memCode] 2 := by
  cases dst <;> exact ⟨rfl, fun _ => rfl⟩

theorem published_ldMemReg (r : Reg) : Published (.ldMemReg r) [opcode 0b01 memCode r.code] 2 := by
  cases r <;> exact ⟨rfl, fun _ => rfl⟩

theorem published_ldPairImm (p : Pair) (nn : Word) :
    Published (.ldPairImm p nn) [opcodeP 0b00 p.code 0 0b001, loByte nn, hiByte nn] 3 := by
  cases p <;> exact ⟨rfl, fun _ => rfl⟩

/-! ## Addresses, and HL moved by one -/

/-- `0xFF00 + n` is the word with high byte `0xFF` (R144). -/
theorem highPage_eq_wordOf (n : Byte) : highPage n = wordOf 0xFF n := by
  have hn := n.isLt
  apply BitVec.eq_of_toNat_eq
  simp only [highPage, zext16, BitVec.toNat_add, BitVec.toNat_setWidth, toNat_wordOf, BitVec.ofNat_eq_ofNat,
    BitVec.toNat_ofNat]
  omega

theorem add_one_eq_ofNat (w : Word) : w + 1 = BitVec.ofNat 16 (w.toNat + 1) := by
  rw [BitVec.ofNat_add, BitVec.ofNat_toNat, BitVec.setWidth_eq]; rfl

theorem add_neg_one_eq_ofInt (w : Word) : w + (-1) = BitVec.ofInt 16 ((w.toNat : Int) - 1) := by
  rw [Int.sub_eq_add_neg, BitVec.ofInt_add, BitVec.ofInt_natCast, BitVec.ofNat_toNat, BitVec.setWidth_eq]; rfl

/-! ## What the shared operations leave -/

@[simp] theorem Cpu.withReg_self (c : Cpu) (r : Reg) : c.withReg r (c.reg r) = c := by cases r <;> rfl

@[simp] theorem State.copyReg_self (s : State) (r : Reg) : s.copyReg r r = s := by
  simp [State.copyReg, State.setReg, State.reg]

theorem State.loadReg_eq (s : State) (dst : Reg) (a : Word) :
    s.loadReg dst a = { s.memReadState a with cpu := s.cpu.withReg dst (s.memReadValue a) } := by
  simp [State.loadReg, State.setReg]

/-- A write M-cycle leaves the CPU's registers. -/
theorem State.memWrite_eq_withCpu (s : State) (a : Word) (v : Byte) :
    s.memWrite a v = (s.memWrite a v).withCpu s.cpu :=
  congrArg (s.memWrite a v).withCpu (s.memWrite_cpu a v)

theorem State.bumpHl_eq (s : State) (d : Word) : s.bumpHl d = s.withCpu (s.cpu.withPair .hl (s.cpu.hl + d)) := rfl

/-! ## Running a load or a store by its shape -/

theorem exec_of_loadReg {i : Instr} {dst : Reg} {a : Addr} (hi : Instr.form i = .loadReg dst a) {s : State} {w : Word}
    (ha : a.at s = w) :
    exec i s = .next { s.memReadState w with cpu := s.cpu.withReg dst (s.memReadValue w) } := by
  rw [exec_form, hi, Form.run, ha, State.loadReg_eq]

/-- The address is the old HL: the load of `A` leaves HL, which then moves. -/
theorem exec_of_loadBump {i : Instr} {d : Word} (hi : Instr.form i = .loadBump d) {s : State} {v : Word}
    (hv : s.cpu.hl + d = v) :
    exec i s = .next { s.memReadState s.cpu.hl with
      cpu := (s.cpu.withReg .a (s.memReadValue s.cpu.hl)).withPair .hl v } := by
  rw [exec_form, hi, Form.run, State.bumpHl_eq, State.loadReg_eq, ← hv]; rfl

theorem exec_of_storeReg {i : Instr} {r : Reg} {a : Addr} (hi : Instr.form i = .storeReg r a) {s : State} {w : Word}
    (ha : a.at s = w) : exec i s = .next { s.memWrite w (s.cpu.reg r) with cpu := s.cpu } := by
  rw [exec_form, hi, Form.run, ha]
  exact congrArg _ (s.memWrite_eq_withCpu w _)

theorem exec_of_storeImm {i : Instr} {n : Byte} (hi : Instr.form i = .storeImm n) (s : State) :
    exec i s = .next { s.memWrite s.cpu.hl n with cpu := s.cpu } := by
  rw [exec_form, hi]
  exact congrArg _ (s.memWrite_eq_withCpu s.cpu.hl n)

/-- The write is at the old HL and leaves it, which then moves. -/
theorem exec_of_storeBump {i : Instr} {d : Word} (hi : Instr.form i = .storeBump d) {s : State} {v : Word}
    (hv : s.cpu.hl + d = v) :
    exec i s = .next { s.memWrite s.cpu.hl s.cpu.a with cpu := s.cpu.withPair .hl v } := by
  rw [exec_form, hi, Form.run, State.bumpHl_eq, State.storeReg_cpu, hv]; rfl

/-! ## The three families -/

/-- Settles O7: the three shapes set the register or pair; a register copied to itself keeps its value. -/
theorem loadRegisters : Obligations.LoadRegisters := by
  refine fun s => ⟨fun dst r => ⟨published_ldRegReg dst r, ?_, ?_⟩, fun dst n => ⟨published_ldRegImm dst n, ?_⟩,
    fun p nn => ⟨published_ldPairImm p nn, ?_⟩⟩
  · rw [exec_form, Instr.form_ldRegReg]; rfl
  · rw [exec_form, Instr.form_ldRegReg, Form.run, State.copyReg_self]
  · rw [exec_form, Instr.form_ldRegImm]; rfl
  · rw [exec_form, Instr.form_ldPairImm]; rfl

/-- Settles O8: six forms are loads at an address of the old state, two move HL after. -/
theorem loadsFromMemory : Obligations.LoadsFromMemory := by
  intro s n nn hl loaded moved
  exact ⟨fun dst => ⟨published_ldRegMem dst, exec_of_loadReg (Instr.form_ldRegMem dst) rfl⟩,
    ⟨⟨rfl, fun _ => rfl⟩, exec_of_loadReg (a := .bc) rfl rfl⟩,
    ⟨⟨rfl, fun _ => rfl⟩, exec_of_loadReg (a := .de) rfl rfl⟩,
    ⟨⟨rfl, fun _ => rfl⟩, exec_of_loadReg (a := .abs nn) rfl rfl⟩,
    ⟨⟨rfl, fun _ => rfl⟩, exec_of_loadReg (a := .high n) rfl (highPage_eq_wordOf n)⟩,
    ⟨⟨rfl, fun _ => rfl⟩, exec_of_loadReg (a := .highC) rfl (highPage_eq_wordOf s.cpu.c)⟩,
    ⟨⟨rfl, fun _ => rfl⟩, exec_of_loadBump (d := 1) rfl (add_one_eq_ofNat hl)⟩,
    ⟨⟨rfl, fun _ => rfl⟩, exec_of_loadBump (d := -1) rfl (add_neg_one_eq_ofInt hl)⟩⟩

/-- Settles O9: seven forms are one store at an address of the old state, two move HL after. -/
theorem storesToMemory : Obligations.StoresToMemory := by
  intro s n nn hl stored moved
  exact ⟨fun r => ⟨published_ldMemReg r, exec_of_storeReg (Instr.form_ldMemReg r) rfl⟩,
    ⟨⟨rfl, fun _ => rfl⟩, exec_of_storeImm rfl s⟩,
    ⟨⟨rfl, fun _ => rfl⟩, exec_of_storeReg (r := .a) (a := .bc) rfl rfl⟩,
    ⟨⟨rfl, fun _ => rfl⟩, exec_of_storeReg (r := .a) (a := .de) rfl rfl⟩,
    ⟨⟨rfl, fun _ => rfl⟩, exec_of_storeReg (r := .a) (a := .abs nn) rfl rfl⟩,
    ⟨⟨rfl, fun _ => rfl⟩, exec_of_storeReg (r := .a) (a := .high n) rfl (highPage_eq_wordOf n)⟩,
    ⟨⟨rfl, fun _ => rfl⟩, exec_of_storeReg (r := .a) (a := .highC) rfl (highPage_eq_wordOf s.cpu.c)⟩,
    ⟨⟨rfl, fun _ => rfl⟩, exec_of_storeBump (d := 1) rfl (add_one_eq_ofNat hl)⟩,
    ⟨⟨rfl, fun _ => rfl⟩, exec_of_storeBump (d := -1) rfl (add_neg_one_eq_ofInt hl)⟩⟩

end Sys2Proof.Machine
end

section
/-! PROOFS. The stack instructions and the 16-bit loads and sums (41_load16.md R201 to R205; 43_alu16.md R250 to R253):
their bytes and M-cycles, and what they leave, by their shapes. -/

namespace Sys2Proof.Machine

/-! ## Shapes, bytes and M-cycles of each family -/

theorem Instr.form_push (p : StkPair) : Instr.form (Instr.push p) = .push p := by cases p <;> rfl
theorem Instr.form_pop (p : StkPair) : Instr.form (Instr.pop p) = .pop p := by cases p <;> rfl
theorem Instr.form_addHlPair (p : Pair) : Instr.form (Instr.addHlPair p) = .addHl p := by cases p <;> rfl
theorem Instr.form_incPair (p : Pair) : Instr.form (Instr.incPair p) = .incPair p := by cases p <;> rfl
theorem Instr.form_decPair (p : Pair) : Instr.form (Instr.decPair p) = .decPair p := by cases p <;> rfl

theorem published_push (p : StkPair) : Published (.push p) [opcodeP 0b11 p.code 0 0b101] 4 := by
  cases p <;> exact ⟨rfl, fun _ => rfl⟩

theorem published_pop (p : StkPair) : Published (.pop p) [opcodeP 0b11 p.code 0 0b001] 3 := by
  cases p <;> exact ⟨rfl, fun _ => rfl⟩

theorem published_addHlPair (p : Pair) : Published (.addHlPair p) [opcodeP 0b00 p.code 1 0b001] 2 := by
  cases p <;> exact ⟨rfl, fun _ => rfl⟩

theorem published_incPair (p : Pair) : Published (.incPair p) [opcodeP 0b00 p.code 0 0b011] 2 := by
  cases p <;> exact ⟨rfl, fun _ => rfl⟩

theorem published_decPair (p : Pair) : Published (.decPair p) [opcodeP 0b00 p.code 1 0b011] 2 := by
  cases p <;> exact ⟨rfl, fun _ => rfl⟩

/-! ## SP moved by two -/

theorem sub_one_sub_one (w : Word) : w - 1 - 1 = w - 2 := by bv_omega

theorem add_one_add_one (w : Word) : w + 1 + 1 = w + 2 := by bv_omega

/-- SP two lower, the high byte at the old SP - 1 and then the low byte at the new SP (R13). -/
theorem State.push16_spec (s : State) (v : Word) :
    (s.push16 v).cpu = { s.cpu with sp := s.cpu.sp - 2 } ∧
    (s.push16 v).trace = .write (s.cpu.sp - 2) (loByte v) :: .write (s.cpu.sp - 1) (hiByte v) :: s.trace := by
  rw [State.push16_cpu, State.push16_trace, sub_one_sub_one]
  exact ⟨rfl, rfl⟩

/-- SP two higher, the low byte read at the old SP and then the high byte above it (R13). -/
theorem State.pop16_spec (s : State) :
    s.pop16.2.cpu = { s.cpu with sp := s.cpu.sp + 2 } ∧
    ∃ lo hi, s.pop16.1 = wordOf hi lo ∧ lo = s.memReadValue s.cpu.sp ∧
      s.pop16.2.trace = .read (s.cpu.sp + 1) hi :: .read s.cpu.sp lo :: s.trace := by
  rw [State.pop16_cpu, add_one_add_one, State.pop16_eq]
  exact ⟨rfl, _, _, rfl, rfl, by simp⟩

/-! ## The stack instructions -/

/-- A state written as itself with the CPU's registers it has. -/
theorem State.eq_withCpu {t : State} {c : Cpu} (h : t.cpu = c) : t = t.withCpu c := by
  rw [← h, State.withCpu_self]

theorem State.idle_setSp (s : State) (v : Word) :
    s.idle.setSp v = { s.idle with cpu := { s.cpu with sp := v } } := by
  rw [State.setSp, State.idle_cpu]

theorem State.pushPair_eq (s : State) (p : StkPair) :
    s.pushPair p = { s.idle.push16 (s.cpu.stkPair p) with cpu := { s.cpu with sp := s.cpu.sp - 2 } } := by
  obtain ⟨hcpu, -⟩ := s.idle.push16_spec (s.cpu.stkPair p)
  rw [State.idle_cpu] at hcpu
  exact State.eq_withCpu hcpu

theorem State.popPair_eq (s : State) (p : StkPair) :
    s.popPair p =
      { s.pop16.2 with cpu := ({ s.cpu with sp := s.cpu.sp + 2 } : Cpu).withStkPair p s.pop16.1 } := by
  obtain ⟨hcpu, -⟩ := s.pop16_spec
  rw [State.popPair, State.setStkPair, hcpu]

/-- Settles O10: two writes or two reads around SP, in the shapes of the instructions. -/
theorem stackInstructions : Obligations.StackInstructions := by
  refine fun s nn => ⟨s.push16_spec, s.pop16_spec, ⟨⟨rfl, fun _ => rfl⟩, ?_⟩, ⟨⟨rfl, fun _ => rfl⟩, ?_⟩,
    fun p => ⟨published_push p, ?_⟩, fun p => ⟨published_pop p, ?_⟩, rfl, fun v => ⟨rfl, rfl⟩⟩
  · rw [exec_form]
    exact congrArg _ (State.eq_withCpu (s.storeSp_cpu nn))
  · rw [exec_form]
    exact congrArg _ (s.idle_setSp s.cpu.hl)
  · rw [exec_form, Instr.form_push, Form.run, State.pushPair_eq]
  · rw [exec_form, Instr.form_pop, Form.run, State.popPair_eq]

/-! ## Sums and carries -/

/-- Two digits below `m` sum to a digit and a carry. -/
theorem add_mod_add_carry {m a b : Nat} (ha : a < m) (hb : b < m) :
    (a + b) % m + m * (decide (m ≤ a + b)).toNat = a + b := by
  rcases Nat.lt_or_ge (a + b) m with h | h
  · rw [Nat.mod_eq_of_lt h, decide_eq_false (Nat.not_le_of_lt h), Bool.toNat_false, Nat.mul_zero, Nat.add_zero]
  · rw [Nat.mod_eq_sub_mod h, Nat.mod_eq_of_lt (by omega), decide_eq_true h, Bool.toNat_true]; omega

/-- The carry of R250 is bit 16 of the exact sum. -/
theorem toNat_add_carry (x y : Word) :
    (x + y).toNat + 65536 * (decide (0xFFFF < x.toNat + y.toNat)).toNat = x.toNat + y.toNat :=
  add_mod_add_carry x.isLt y.isLt

/-- The half carry of R250 is bit 12 of the exact sum of the low twelve bits. -/
theorem toNat_add_halfCarry (x y : Word) :
    (x + y).toNat % 4096 + 4096 * (decide (0x0FFF < x.toNat % 4096 + y.toNat % 4096)).toNat =
      x.toNat % 4096 + y.toNat % 4096 := by
  have hmod : (x + y).toNat % 4096 = (x.toNat % 4096 + y.toNat % 4096) % 4096 := by rw [BitVec.toNat_add]; omega
  rw [hmod]
  exact add_mod_add_carry (Nat.mod_lt _ (by decide)) (Nat.mod_lt _ (by decide))

theorem sub_one_eq_ofInt (w : Word) : w - 1 = BitVec.ofInt 16 ((w.toNat : Int) - 1) :=
  (BitVec.sub_eq_add_neg w 1).trans (add_neg_one_eq_ofInt w)

/-- The displacement of R205 and R253 is signed. -/
theorem add_sext16_eq_ofInt (w : Word) (e : Byte) :
    w + sext16 e = BitVec.ofInt 16 ((w.toNat : Int) + e.toInt) := by
  rw [BitVec.ofInt_add, BitVec.ofInt_natCast, BitVec.ofNat_toNat, BitVec.setWidth_eq]; rfl

/-! ## The 16-bit arithmetic -/

/-- `ADD HL,rr` is one idle M-cycle, the sum in HL and the flags of R250. -/
theorem State.addHl_eq (s : State) (p : Pair) :
    s.addHl p = { s.idle with
      cpu := { s.cpu.withPair .hl (s.cpu.hl + s.cpu.pair p) with f := addHlFlags s.cpu.hl (s.cpu.pair p) s.cpu.f } } := by
  rw [State.addHl, State.setFlags, State.setHl, State.idle_cpu]; rfl

theorem State.incPair_eq (s : State) (p : Pair) :
    s.incPair p = { s.idle with cpu := s.cpu.withPair p (BitVec.ofNat 16 ((s.cpu.pair p).toNat + 1)) } := by
  rw [State.incPair, State.setPair, State.idle_cpu, ← add_one_eq_ofNat]; rfl

theorem State.decPair_eq (s : State) (p : Pair) :
    s.decPair p = { s.idle with cpu := s.cpu.withPair p (BitVec.ofInt 16 (((s.cpu.pair p).toNat : Int) - 1)) } := by
  rw [State.decPair, State.setPair, State.idle_cpu, ← sub_one_eq_ofInt]; rfl

theorem State.addSp_eq (s : State) (e : Byte) :
    s.addSp e = { s.idle.idle with
      cpu := { s.cpu with
        sp := BitVec.ofInt 16 ((s.cpu.sp.toNat : Int) + e.toInt), f := addSpFlags s.cpu.sp e } } := by
  rw [State.addSp, State.setFlags, State.setSp, State.idle_cpu, State.idle_cpu, add_sext16_eq_ofInt]

theorem State.leaHl_eq (s : State) (e : Byte) :
    s.leaHl e = { s.idle with
      cpu := { s.cpu.withPair .hl (BitVec.ofInt 16 ((s.cpu.sp.toNat : Int) + e.toInt)) with
        f := addSpFlags s.cpu.sp e } } := by
  rw [State.leaHl, State.setFlags, State.setHl, State.idle_cpu, add_sext16_eq_ofInt]; rfl

/-- Settles O16: the idle M-cycles and the registers of each shape, the sums of `ADD HL,rr` exact. -/
theorem wordArithmetic : Obligations.WordArithmetic := by
  intro p e s offset f
  refine ⟨⟨published_addHlPair p, s.cpu.hl + s.cpu.pair p, _, _, toNat_add_carry _ _, toNat_add_halfCarry _ _, ?_⟩,
    ⟨published_incPair p, ?_⟩, ⟨published_decPair p, ?_⟩, ⟨⟨rfl, fun _ => rfl⟩, ?_⟩, ⟨⟨rfl, fun _ => rfl⟩, ?_⟩⟩
  · rw [exec_form, Instr.form_addHlPair, Form.run, State.addHl_eq]; rfl
  · rw [exec_form, Instr.form_incPair, Form.run, State.incPair_eq]
  · rw [exec_form, Instr.form_decPair, Form.run, State.decPair_eq]
  · rw [exec_form]
    exact congrArg _ (s.addSp_eq e)
  · rw [exec_form]
    exact congrArg _ (s.leaHl_eq e)

end Sys2Proof.Machine
end

section
/-! PROOFS. The 8-bit arithmetic and logic (42_alu8.md R210 to R242): its bytes and M-cycles, what it leaves, by its
shapes, and its results as numbers and bits. -/

namespace Sys2Proof.Machine

/-! ## Shapes, bytes and M-cycles of each family -/

theorem Instr.form_aluReg (op : AluOp) (r : Reg) : Instr.form (Instr.aluReg op r) = .aluReg op r := by
  cases op <;> cases r <;> rfl

theorem Instr.form_aluMem (op : AluOp) : Instr.form (Instr.aluMem op) = .aluMem op := by cases op <;> rfl

theorem Instr.form_aluImm (op : AluOp) (n : Byte) : Instr.form (Instr.aluImm op n) = .alu op n := by cases op <;> rfl

theorem Instr.form_incReg (r : Reg) : Instr.form (Instr.incReg r) = .incReg r := by cases r <;> rfl
theorem Instr.form_decReg (r : Reg) : Instr.form (Instr.decReg r) = .decReg r := by cases r <;> rfl

theorem published_alu (x : AluSource) (op : AluOp) : Published (x.instr op) (x.bytes op) x.mcycles := by
  cases x with
  | reg r => cases op <;> cases r <;> exact ⟨rfl, fun _ => rfl⟩
  | mem => cases op <;> exact ⟨rfl, fun _ => rfl⟩
  | imm n => cases op <;> exact ⟨rfl, fun _ => rfl⟩

theorem published_incReg (r : Reg) : Published (.incReg r) [opcode 0b00 r.code 0b100] 1 := by
  cases r <;> exact ⟨rfl, fun _ => rfl⟩

theorem published_decReg (r : Reg) : Published (.decReg r) [opcode 0b00 r.code 0b101] 1 := by
  cases r <;> exact ⟨rfl, fun _ => rfl⟩

/-! ## The eight accumulator operations in their three forms -/

/-- Once the operand is read, the operation writes `A` and `F` alone (R210). -/
theorem exec_alu (x : AluSource) (op : AluOp) (s : State) :
    exec (x.instr op) s = .next { x.after s with
      cpu := s.cpu.withAF (aluRun op s.cpu.a (x.value s) s.cpu.f.c).val
        (aluRun op s.cpu.a (x.value s) s.cpu.f.c).flags } := by
  cases x with
  | reg r => rw [AluSource.instr, exec_form, Instr.form_aluReg]; rfl
  | mem =>
    have hcpu : (s.memReadState s.cpu.hl).cpu = s.cpu := s.memReadState_cpu _
    rw [AluSource.instr, exec_form, Instr.form_aluMem, Form.run, State.aluMem, State.alu, State.putA, State.setFlags,
      State.setA, hcpu]
    rfl
  | imm n => rw [AluSource.instr, exec_form, Instr.form_aluImm]; rfl

/-! ## Sums and differences -/

theorem carryIn_eq_toNat (c : Bool) : carryIn c = c.toNat := by cases c <;> rfl

/-- A carry or borrow as a number. -/
theorem toNat_decide (p : Prop) [Decidable p] : (decide p).toNat = if p then 1 else 0 := Bool.cond_decide p 1 0

theorem toNat_add8 (a b : Byte) (c : Bool) : (add8 a b c).val.toNat = (a.toNat + b.toNat + c.toNat) % 256 := by
  rw [← carryIn_eq_toNat]; exact BitVec.toNat_ofNat _ _

/-- `Add8` is the exact sum of the bytes and of their low nibbles (R210). -/
theorem add8_isSum (a b : Byte) (c : Bool) : IsSum a b c.toNat (add8 a b c).val (add8 a b c).flags := by
  have hc := c.toNat_le
  have hval := toNat_add8 a b c
  refine ⟨?_, ?_, rfl, rfl⟩
  · show _ + 256 * (decide (0xFF < a.toNat + b.toNat + carryIn c)).toNat = _
    rw [carryIn_eq_toNat, toNat_decide]
    split <;> omega
  · show _ + 16 * (decide (0xF < a.toNat % 16 + b.toNat % 16 + carryIn c)).toNat = _
    rw [carryIn_eq_toNat, toNat_decide]
    split <;> omega

theorem toNat_sub8 (a b : Byte) (c : Bool) :
    ((sub8 a b c).val.toNat : Int) = ((a.toNat : Int) - b.toNat - c.toNat) % 256 := by
  rw [← carryIn_eq_toNat, sub8, BitVec.toNat_ofInt]
  exact Int.toNat_of_nonneg (Int.emod_nonneg _ (by decide))

/-- `Sub8` is the exact difference of the bytes and of their low nibbles (R210). -/
theorem sub8_isDifference (a b : Byte) (c : Bool) : IsDifference a b c.toNat (sub8 a b c).val (sub8 a b c).flags := by
  have hc := c.toNat_le
  have hval := toNat_sub8 a b c
  refine ⟨?_, ?_, rfl, rfl⟩
  · show _ = a.toNat + 256 * (decide ((a.toNat : Int) - b.toNat - carryIn c < 0)).toNat
    rw [carryIn_eq_toNat, toNat_decide]
    split <;> omega
  · show _ = a.toNat % 16 + 16 * (decide (a.toNat % 16 < b.toNat % 16 + carryIn c)).toNat
    rw [carryIn_eq_toNat, toNat_decide]
    split <;> omega

/-- A difference is zero when its terms are equal. -/
theorem IsDifference.z_iff {a b r : Byte} {f : Flags} (h : IsDifference a b 0 r f) : f.z = true ↔ a = b := by
  obtain ⟨hval, -, hz, -⟩ := h
  have hc := f.c.toNat_le
  rw [hz, decide_eq_true_iff]
  bv_omega

/-- It borrows when the second term is the greater. -/
theorem IsDifference.c_iff {a b r : Byte} {f : Flags} (h : IsDifference a b 0 r f) :
    f.c = true ↔ a.toNat < b.toNat := by
  obtain ⟨hval, -, -, -⟩ := h
  rw [← Bool.toNat_eq_one]
  omega

/-- Settles O11: in every form `A` and `F` are the exact sum of `A`, the operand and the carry. -/
theorem addAndAdc : Obligations.AddAndAdc := fun x s =>
  ⟨⟨published_alu x .add, published_alu x .adc⟩,
    ⟨_, _, add8_isSum s.cpu.a (x.value s) false, exec_alu x .add s⟩,
    ⟨_, _, add8_isSum s.cpu.a (x.value s) s.cpu.f.c, exec_alu x .adc s⟩⟩

/-- Settles O12: in every form `F` is that of the exact difference, which `CP` does not write to `A`. -/
theorem subSbcAndCp : Obligations.SubSbcAndCp := by
  intro x s
  have hsub := sub8_isDifference s.cpu.a (x.value s) false
  exact ⟨⟨published_alu x .sub, published_alu x .sbc, published_alu x .cp⟩,
    ⟨_, _, hsub, exec_alu x .sub s⟩,
    ⟨_, _, sub8_isDifference s.cpu.a (x.value s) s.cpu.f.c, exec_alu x .sbc s⟩,
    ⟨_, _, hsub, hsub.z_iff, hsub.c_iff, exec_alu x .cp s⟩⟩

/-! ## Logic -/

/-- `CPL` inverts every bit (R240). -/
theorem cpl_val (a : Byte) (f : Flags) : (cpl a f).val = ~~~ a := BitVec.xor_allOnes

theorem exec_cpl (s : State) :
    exec .cpl s = .next { s with cpu := s.cpu.withAF (cpl s.cpu.a s.cpu.f).val (cpl s.cpu.a s.cpu.f).flags } := rfl

/-- Settles O13: the results are the bitwise operations of the words, so bit by bit those of their bits. -/
theorem logicOperations : Obligations.LogicOperations := by
  intro x s a b done
  refine ⟨⟨published_alu x .and, published_alu x .xor, published_alu x .or⟩,
    ⟨a &&& b, fun i _ => BitVec.getLsbD_and, exec_alu x .and s⟩,
    ⟨a ^^^ b, fun i _ => BitVec.getLsbD_xor, exec_alu x .xor s⟩,
    ⟨a ||| b, fun i _ => BitVec.getLsbD_or, exec_alu x .or s⟩,
    ⟨⟨rfl, fun _ => rfl⟩, _, fun i hi => ?_, exec_cpl s⟩,
    ⟨⟨rfl, fun _ => rfl⟩, rfl⟩, ⟨⟨rfl, fun _ => rfl⟩, rfl⟩⟩
  rw [cpl_val, BitVec.getLsbD_not, decide_eq_true hi, Bool.true_and]

/-! ## Increment and decrement -/

/-- The increment and its flags as numbers (R235). -/
theorem inc8_eq (v : Byte) (f : Flags) :
    inc8 v f = { val := BitVec.ofNat 8 (v.toNat + 1)
                 flags := { z := decide (v.toNat = 255), n := false, h := decide (v.toNat % 16 = 15), c := f.c } } := by
  have hval : v + 1 = BitVec.ofNat 8 (v.toNat + 1) := by
    rw [BitVec.ofNat_add, BitVec.ofNat_toNat, BitVec.setWidth_eq]; rfl
  have hzero : v + 1 = 0 ↔ v.toNat = 255 := by bv_omega
  rw [inc8, decide_eq_decide.mpr hzero, hval]

/-- The decrement and its flags as numbers (R237). -/
theorem dec8_eq (v : Byte) (f : Flags) :
    dec8 v f = { val := BitVec.ofInt 8 ((v.toNat : Int) - 1)
                 flags := { z := decide (v.toNat = 1), n := true, h := decide (v.toNat % 16 = 0), c := f.c } } := by
  have hval : v - 1 = BitVec.ofInt 8 ((v.toNat : Int) - 1) := by
    rw [BitVec.sub_eq_add_neg, Int.sub_eq_add_neg, BitVec.ofInt_add, BitVec.ofInt_natCast, BitVec.ofNat_toNat,
      BitVec.setWidth_eq]
    rfl
  have hzero : v - 1 = 0 ↔ v.toNat = 1 := by bv_omega
  rw [dec8, decide_eq_decide.mpr hzero, hval]

/-- A result put at HL: a read M-cycle, a write M-cycle, and of the registers `F` (R236, R238). -/
theorem State.putMem_eq (s : State) (o : AluOut) :
    s.putMem o = { (s.memReadState s.cpu.hl).memWrite s.cpu.hl o.val with cpu := { s.cpu with f := o.flags } } := by
  rw [State.putMem, State.setFlags, State.memWrite_cpu, State.memReadState_cpu]

/-- Settles O14: both are a result put in a register or at HL, with the carry it had. -/
theorem incrementAndDecrement : Obligations.IncrementAndDecrement := by
  intro s up down upFlags downFlags hl v
  refine ⟨fun r => ⟨published_incReg r, ?_⟩, fun r => ⟨published_decReg r, ?_⟩, ⟨⟨rfl, fun _ => rfl⟩, ?_⟩,
    ⟨⟨rfl, fun _ => rfl⟩, ?_⟩⟩
  · rw [exec_form, Instr.form_incReg, Form.run, State.incReg, inc8_eq]; rfl
  · rw [exec_form, Instr.form_decReg, Form.run, State.decReg, dec8_eq]; rfl
  · show Host.Outcome.next s.incMem = _
    rw [State.incMem, State.putMem_eq, inc8_eq]; rfl
  · show Host.Outcome.next s.decMem = _
    rw [State.decMem, State.putMem_eq, dec8_eq]; rfl

/-! ## `DAA` -/

theorem exec_daa (s : State) :
    exec .daa s = .next { s with cpu := s.cpu.withAF (daa s.cpu.a s.cpu.f).val (daa s.cpu.a s.cpu.f).flags } := rfl

/-- After an addition the adjustments are added (R239). -/
theorem daa_of_add {a : Byte} {f : Flags} (h : f.n = false) :
    (daa a f).flags.c = (f.c || decide (0x99 < a.toNat)) ∧
    (daa a f).val.toNat = (a.toNat + (if f.c = true ∨ 0x99 < a.toNat then 0x60 else 0) +
      (if f.h = true ∨ 0x09 < a.toNat % 16 then 0x06 else 0)) % 256 := by
  simp [daa, h, daaHighAdjust, daaLowAdjust]

/-- After a subtraction they are subtracted (R239). -/
theorem daa_of_sub {a : Byte} {f : Flags} (h : f.n = true) :
    (daa a f).flags.c = f.c ∧
    ((daa a f).val.toNat + (if f.c = true then 0x60 else 0) + (if f.h = true then 0x06 else 0)) % 256 = a.toNat := by
  simp only [daa, h, if_true, BitVec.toNat_ofInt, true_and]
  split <;> split <;> omega

/-- A number below 100 as two decimal digits, one per nibble; of a greater one, the last two. -/
def bcd (k : Nat) : Byte := BitVec.ofNat 8 (16 * (k / 10 % 10) + k % 10)

theorem toNat_bcd (k : Nat) : (bcd k).toNat = 16 * (k / 10 % 10) + k % 10 := by
  rw [bcd, BitVec.toNat_ofNat]; omega

/-- A two-digit number by its digits, which are the nibbles of its byte. -/
theorem exists_digits {x : Nat} (hx : x < 100) : ∃ t < 10, ∃ u < 10, x = 10 * t + u ∧ (bcd x).toNat = 16 * t + u :=
  ⟨x / 10, by omega, x % 10, by omega, by omega, by rw [toNat_bcd]; omega⟩

/-- A byte whose nibbles are the last two decimal digits of `k`. -/
theorem eq_bcd_of_digits {r : Byte} {k t u : Nat} (hu : u < 10) (hk : k % 100 = 10 * t + u)
    (hr : r.toNat = 16 * t + u) : r = bcd k := by
  have htens : k / 10 % 10 = t := by omega
  have hunits : k % 10 = u := by omega
  apply BitVec.eq_of_toNat_eq
  rw [toNat_bcd, hr, htens, hunits]

/-- The digit and the decimal carry of a sum of digits. -/
theorem exists_digit_carry {k : Nat} (h : k < 20) : ∃ c ≤ 1, ∃ d < 10, k = 10 * c + d :=
  ⟨k / 10, by omega, k % 10, by omega, by omega⟩

/-- The digit and the decimal borrow of a difference of digits. -/
theorem exists_digit_borrow {a b : Nat} (ha : a < 10) (hb : b ≤ 10) : ∃ c ≤ 1, ∃ d < 10, a + 10 * c = b + d := by
  rcases Nat.lt_or_ge a b with h | h
  · exact ⟨1, by omega, a + 10 - b, by omega, by omega⟩
  · exact ⟨0, by omega, a - b, by omega, by omega⟩

/-- An adjustment made when a carry or borrow is one. -/
theorem ite_carry {c : Nat} (h : c ≤ 1) (m : Nat) : (if c = 1 then m else 0) = m * c := by
  rcases Nat.le_one_iff_eq_zero_or_eq_one.mp h with rfl | rfl
  · simp
  · simp

/-- The decimal sum: the low adjustment is made when the low digits carry, the high one when the sum does, and each
turns a carry at ten into one at sixteen. -/
theorem IsSum.daa_bcd {x y : Nat} {r : Byte} {f : Flags} (hx : x < 100) (hy : y < 100)
    (h : IsSum (bcd x) (bcd y) 0 r f) :
    (daa r f).val = bcd (x + y) ∧ (daa r f).flags.c = decide (100 ≤ x + y) := by
  obtain ⟨t, ht, u, hu, rfl, hx⟩ := exists_digits hx
  obtain ⟨v, hv, w, hw, rfl, hy⟩ := exists_digits hy
  obtain ⟨cl, hcl, lo, hlo, hlow⟩ := exists_digit_carry (k := u + w) (by omega)
  obtain ⟨ch, hch, hi, hhi, hhigh⟩ := exists_digit_carry (k := t + v + cl) (by omega)
  obtain ⟨hsum, hnibble, -, hn⟩ := h
  obtain ⟨hc, hval⟩ := daa_of_add (a := r) hn
  rw [hx, hy] at hsum hnibble
  have hlowAdjust : f.h = true ∨ 0x09 < r.toNat % 16 ↔ cl = 1 := by
    rw [← Bool.toNat_eq_one]; omega
  have hhighAdjust : f.c = true ∨ 0x99 < r.toNat ↔ ch = 1 := by
    rw [← Bool.toNat_eq_one]; omega
  refine ⟨eq_bcd_of_digits (t := hi) hlo (by omega) ?_, ?_⟩
  · simp only [hlowAdjust, hhighAdjust, ite_carry hcl, ite_carry hch] at hval
    omega
  · have hhundred : ch = 1 ↔ 100 ≤ 10 * t + u + (10 * v + w) := by omega
    rw [hc, Bool.eq_iff_iff, Bool.or_eq_true, decide_eq_true_iff, decide_eq_true_iff, hhighAdjust, hhundred]

/-- The decimal difference: each half is adjusted when its digits borrow. -/
theorem IsDifference.daa_bcd {x y : Nat} {r : Byte} {f : Flags} (hx : x < 100) (hy : y < 100)
    (h : IsDifference (bcd x) (bcd y) 0 r f) :
    (daa r f).val = bcd (x + 100 - y) ∧ (daa r f).flags.c = decide (x < y) := by
  obtain ⟨t, ht, u, hu, rfl, hx⟩ := exists_digits hx
  obtain ⟨v, hv, w, hw, rfl, hy⟩ := exists_digits hy
  obtain ⟨cl, hcl, lo, hlo, hlow⟩ := exists_digit_borrow (b := w) hu (by omega)
  obtain ⟨ch, hch, hi, hhi, hhigh⟩ := exists_digit_borrow (b := v + cl) ht (by omega)
  obtain ⟨hdiff, hnibble, -, hn⟩ := h
  obtain ⟨hc, hval⟩ := daa_of_sub (a := r) hn
  rw [hx, hy] at hdiff hnibble
  have hlowAdjust : f.h = true ↔ cl = 1 := by
    rw [← Bool.toNat_eq_one]; omega
  have hhighAdjust : f.c = true ↔ ch = 1 := by
    rw [← Bool.toNat_eq_one]; omega
  refine ⟨eq_bcd_of_digits (t := hi) hlo (by omega) ?_, ?_⟩
  · simp only [hlowAdjust, hhighAdjust, ite_carry hcl, ite_carry hch] at hval
    omega
  · have hless : ch = 1 ↔ 10 * t + u < 10 * v + w := by omega
    rw [hc, Bool.eq_iff_iff, decide_eq_true_iff, hhighAdjust, hless]

/-- Settles O15: the adjustments are those of R239, and on decimal digits they carry and borrow at ten. -/
theorem daaAdjusts : Obligations.DaaAdjusts := by
  refine ⟨fun s => ⟨_, _, ⟨rfl, fun _ => rfl⟩, exec_daa s, rfl, rfl, rfl, daa_of_add, daa_of_sub⟩, ?_⟩
  intro s x y hx hy _ (ha : s.cpu.a = bcd x)
  have hsum := (add8_isSum (bcd x) (bcd y) false).daa_bcd hx hy
  have hdiff := (sub8_isDifference (bcd x) (bcd y) false).daa_bcd hx hy
  rw [← ha] at hsum hdiff
  exact ⟨⟨_, _, exec_alu (.imm (bcd y)) .add s, exec_daa _, hsum⟩,
    ⟨_, _, exec_alu (.imm (bcd y)) .sub s, exec_daa _, hdiff⟩⟩

end Sys2Proof.Machine
end

section
/-! PROOFS. The flag summary (42_alu8.md R210): what each shape of instruction does to the flags. -/

namespace Sys2Proof.Machine

/-- The flags may go from `old` to `new`. -/
def FlagsAllowed (x : FlagColumn) (old new : Flags) : Prop :=
  x.z.allows old.z new.z ∧ x.n.allows old.n new.n ∧ x.h.allows old.h new.h ∧ x.c.allows old.c new.c

/-! ## The summary by shape -/

/-- The rows of the eight accumulator operations. -/
def aluColumn : AluOp → FlagColumn
  | .add | .adc => ⟨.computed, .clear, .computed, .computed⟩
  | .sub | .sbc | .cp => ⟨.computed, .set, .computed, .computed⟩
  | .and => ⟨.computed, .clear, .set, .clear⟩
  | .xor | .or => ⟨.computed, .clear, .clear, .clear⟩

/-- The rows of the CB-table rotates: `SWAP` has no carry out. -/
def rotColumn : RotOp → FlagColumn
  | .swap => ⟨.computed, .clear, .clear, .clear⟩
  | _ => ⟨.computed, .clear, .clear, .computed⟩

/-- The row of a shape. -/
def Form.flagColumn : Form → FlagColumn
  | .alu op _ | .aluReg op _ | .aluMem op => aluColumn op
  | .incReg _ | .incMem => ⟨.computed, .clear, .computed, .keep⟩
  | .decReg _ | .decMem => ⟨.computed, .set, .computed, .keep⟩
  | .daa => ⟨.computed, .keep, .clear, .computed⟩
  | .cpl => ⟨.keep, .set, .set, .keep⟩
  | .scf => ⟨.keep, .clear, .clear, .set⟩
  | .ccf => ⟨.keep, .clear, .clear, .computed⟩
  | .addHl _ => ⟨.keep, .clear, .computed, .computed⟩
  | .addSp _ | .leaHl _ => ⟨.clear, .clear, .computed, .computed⟩
  | .rotA _ => ⟨.clear, .clear, .clear, .computed⟩
  | .rotReg op _ | .rotMem op => rotColumn op
  | .testReg .. | .testMem _ => ⟨.computed, .clear, .set, .keep⟩
  | .runCb _ | .pop .af => ⟨.computed, .computed, .computed, .computed⟩
  | _ => ⟨.keep, .keep, .keep, .keep⟩

/-- An instruction's row is that of its shape. -/
theorem Instr.flagColumn_form (i : Instr) : i.flagColumn = (Instr.form i).flagColumn := by
  cases i <;> rfl

/-! ## Results and their rows -/

theorem FlagsAllowed.of_eq {old new : Flags} (h : new = old) : FlagsAllowed ⟨.keep, .keep, .keep, .keep⟩ old new := by
  subst h; exact ⟨rfl, rfl, rfl, rfl⟩

theorem aluRun_flagsAllowed (op : AluOp) (a b : Byte) (c : Bool) (old : Flags) :
    FlagsAllowed (aluColumn op) old (aluRun op a b c).flags := by
  cases op with
  | add | adc | sub | sbc | cp => exact ⟨trivial, rfl, trivial, trivial⟩
  | and | xor | or => exact ⟨trivial, rfl, rfl, rfl⟩

theorem rotRun_flagsAllowed (op : RotOp) (v : Byte) (c : Bool) (old : Flags) :
    FlagsAllowed (rotColumn op) old (rotFlags (rotRun op v c)) := by
  cases op with
  | swap => exact ⟨trivial, rfl, rfl, rfl⟩
  | rlc | rrc | rl | rr | sla | sra | srl => exact ⟨trivial, rfl, rfl, trivial⟩

/-! ## What keeps the flags -/

theorem State.onCond_cpu_f {s : State} (cc : Cond) {f : State → State} (h : (f s).cpu.f = s.cpu.f) :
    (s.onCond cc f).cpu.f = s.cpu.f := by
  unfold State.onCond; split
  · exact h
  · rfl

@[simp] theorem State.halt_cpu_f (s : State) : s.halt.cpu.f = s.cpu.f := by
  unfold State.halt; split <;> rfl

@[simp] theorem State.ei_cpu_f (s : State) : s.ei.cpu.f = s.cpu.f := by
  unfold State.ei; split <;> rfl

@[simp] theorem State.stopOperand_cpu_f (s : State) : s.stopOperand.cpu.f = s.cpu.f := by
  unfold State.stopOperand; split
  · rw [State.fetch8_cpu]
  · rfl

@[simp] theorem State.stop_cpu_f (s : State) : s.stop.cpu.f = s.cpu.f := by
  unfold State.stop; dsimp only; split
  · rw [State.switchSpeed, State.idles_cpu]; exact s.stopOperand_cpu_f
  · exact s.stopOperand_cpu_f

/-! ## Every shape -/

/-- A shape that runs changes the flags as its row says. -/
theorem Form.run_flagsAllowed {s t : State} {f : Form} (e : f.run s = .next t) :
    FlagsAllowed f.flagColumn s.cpu.f t.cpu.f := by
  have get {u : State} (eq : Host.Outcome.next u = f.run s) (hu : FlagsAllowed f.flagColumn s.cpu.f u.cpu.f) :
      FlagsAllowed f.flagColumn s.cpu.f t.cpu.f :=
    Host.Outcome.next.inj (eq.trans e) ▸ hu
  cases f with
  | illegal => exact nomatch e
  | nop | di | jumpHl => exact get rfl (.of_eq rfl)
  | setReg | copyReg | resReg | setBitReg => exact get rfl (.of_eq (s.cpu.withReg_f _ _))
  | setPair => exact get rfl (.of_eq (s.cpu.withPair_f _ _))
  | loadReg => exact get rfl (.of_eq (by simp))
  | loadBump | storeBump => exact get rfl (.of_eq (by simp [State.bumpHl]))
  | storeReg | storeImm | storeSp | resMem | setBitMem => exact get rfl (.of_eq (by simp [State.resMem, State.setBitMem]))
  | spFromHl | push | jump | jumpRel | call | rst | ret | reti => exact get rfl (.of_eq (by simp [State.rst]))
  | incPair | decPair => exact get rfl (.of_eq (by simp [State.incPair, State.decPair, State.setPair]))
  | jumpIf cc | jumpRelIf cc | callIf cc => exact get rfl (.of_eq (State.onCond_cpu_f cc (by simp)))
  | retIf cc => exact get rfl (.of_eq ((State.onCond_cpu_f cc (by simp)).trans (congrArg Cpu.f s.idle_cpu)))
  | halt => exact get rfl (.of_eq s.halt_cpu_f)
  | stop => exact get rfl (.of_eq s.stop_cpu_f)
  | ei => exact get rfl (.of_eq s.ei_cpu_f)
  | pop p =>
    cases p with
    | af => exact ⟨trivial, trivial, trivial, trivial⟩
    | bc | de | hl => exact get rfl (.of_eq (by simp [Cpu.withStkPair]))
  | runCb => exact ⟨trivial, trivial, trivial, trivial⟩
  | alu | aluReg | aluMem => exact get rfl (aluRun_flagsAllowed ..)
  | rotReg | rotMem => exact get rfl (rotRun_flagsAllowed ..)
  | incReg | decReg | incMem | decMem => exact get rfl ⟨trivial, rfl, trivial, rfl⟩
  | daa => exact get rfl ⟨trivial, rfl, rfl, trivial⟩
  | cpl | scf => exact get rfl ⟨rfl, rfl, rfl, rfl⟩
  | ccf | rotA => exact get rfl ⟨rfl, rfl, rfl, trivial⟩
  | addHl | addSp | leaHl => exact get rfl ⟨rfl, rfl, trivial, trivial⟩
  | testReg | testMem => exact get rfl ⟨trivial, rfl, rfl, rfl⟩

/-- Settles O30: an instruction has the row of its shape, and its shape keeps to it. -/
theorem flagsAsPublished : Obligations.FlagsAsPublished := by
  intro i s t e
  rw [Instr.flagColumn_form]
  exact Form.run_flagsAllowed (exec_form i s ▸ e)

end Sys2Proof.Machine
end

section
/-! PROOFS. The rotates, shifts and bit instructions (44_rotate_shift_bit.md R260 to R286): their bytes and M-cycles,
what they leave, by their shapes, and their results bit by bit. -/

namespace Sys2Proof.Machine

/-! ## Shapes, bytes and M-cycles of each family -/

theorem Instr.form_rotReg (op : RotOp) (r : Reg) : Instr.form (Instr.rotReg op r) = .rotReg op r := by
  cases op <;> cases r <;> rfl

theorem Instr.form_rotMem (op : RotOp) : Instr.form (Instr.rotMem op) = .rotMem op := by cases op <;> rfl

theorem Instr.form_bitReg (b : Ix) (r : Reg) : Instr.form (Instr.bitReg b r) = .testReg b r := by
  cases b <;> cases r <;> rfl

theorem Instr.form_bitMem (b : Ix) : Instr.form (Instr.bitMem b) = .testMem b := by cases b <;> rfl

theorem Instr.form_resReg (b : Ix) (r : Reg) : Instr.form (Instr.resReg b r) = .resReg b r := by
  cases b <;> cases r <;> rfl

theorem Instr.form_resMem (b : Ix) : Instr.form (Instr.resMem b) = .resMem b := by cases b <;> rfl

theorem Instr.form_setReg (b : Ix) (r : Reg) : Instr.form (Instr.setReg b r) = .setBitReg b r := by
  cases b <;> cases r <;> rfl

theorem Instr.form_setMem (b : Ix) : Instr.form (Instr.setMem b) = .setBitMem b := by cases b <;> rfl

theorem published_rotReg (op : RotOp) (r : Reg) :
    Published (.rotReg op r) [0xCB, opcode 0b00 op.code r.code] 2 := by
  cases op <;> cases r <;> exact ⟨rfl, fun _ => rfl⟩

theorem published_rotMem (op : RotOp) : Published (.rotMem op) [0xCB, opcode 0b00 op.code memCode] 4 := by
  cases op <;> exact ⟨rfl, fun _ => rfl⟩

theorem published_bitReg (b : Ix) (r : Reg) : Published (.bitReg b r) [0xCB, opcode 0b01 b.code r.code] 2 := by
  cases b <;> cases r <;> exact ⟨rfl, fun _ => rfl⟩

theorem published_bitMem (b : Ix) : Published (.bitMem b) [0xCB, opcode 0b01 b.code memCode] 3 := by
  cases b <;> exact ⟨rfl, fun _ => rfl⟩

theorem published_resReg (b : Ix) (r : Reg) : Published (.resReg b r) [0xCB, opcode 0b10 b.code r.code] 2 := by
  cases b <;> cases r <;> exact ⟨rfl, fun _ => rfl⟩

theorem published_resMem (b : Ix) : Published (.resMem b) [0xCB, opcode 0b10 b.code memCode] 4 := by
  cases b <;> exact ⟨rfl, fun _ => rfl⟩

theorem published_setReg (b : Ix) (r : Reg) : Published (.setReg b r) [0xCB, opcode 0b11 b.code r.code] 2 := by
  cases b <;> cases r <;> exact ⟨rfl, fun _ => rfl⟩

theorem published_setMem (b : Ix) : Published (.setMem b) [0xCB, opcode 0b11 b.code memCode] 4 := by
  cases b <;> exact ⟨rfl, fun _ => rfl⟩

/-! ## Bits moved by a rotate or shift -/

@[simp] theorem getLsbD_bitOf (c : Bool) : (bitOf c).getLsbD 0 = c := by cases c <;> rfl

/-- A field of one bit. -/
theorem getLsbD_extractBit (v : Byte) (k : Nat) : (v.extractLsb' k 1).getLsbD 0 = v.getLsbD k := by
  rw [BitVec.getLsbD_extractLsb', decide_eq_true Nat.one_pos, Bool.true_and, Nat.add_zero]

/-- Every bit one place up, and `x` in the lowest. -/
theorem getLsbD_shiftUp (v : Byte) {b : BitVec 1} {x : Bool} (hb : b.getLsbD 0 = x) {i : Nat} (hi : i < 8) :
    (v.extractLsb' 0 7 ++ b).getLsbD i = if i = 0 then x else v.getLsbD (i - 1) := by
  rw [BitVec.getLsbD_append]
  rcases Nat.eq_zero_or_pos i with rfl | hpos
  · exact hb
  · rw [if_neg (by omega), if_neg (by omega), BitVec.getLsbD_extractLsb', decide_eq_true (by omega), Bool.true_and,
      Nat.zero_add]

/-- Every bit one place down, and `x` in the highest. -/
theorem getLsbD_shiftDown (v : Byte) {b : BitVec 1} {x : Bool} (hb : b.getLsbD 0 = x) {i : Nat} (hi : i < 8) :
    (b ++ v.extractLsb' 1 7).getLsbD i = if i = 7 then x else v.getLsbD (i + 1) := by
  rw [BitVec.getLsbD_append]
  rcases Nat.lt_or_eq_of_le (Nat.le_of_lt_succ hi) with hlt | rfl
  · rw [if_pos hlt, if_neg (by omega), BitVec.getLsbD_extractLsb', decide_eq_true hlt, Bool.true_and, Nat.add_comm]
  · exact hb

/-- The nibbles exchanged: every bit four places round. -/
theorem getLsbD_swap (v : Byte) {i : Nat} (hi : i < 8) : (swap v).1.getLsbD i = v.getLsbD ((i + 4) % 8) := by
  show (v.extractLsb' 0 4 ++ v.extractLsb' 4 4).getLsbD i = _
  rw [BitVec.getLsbD_append, BitVec.getLsbD_extractLsb', BitVec.getLsbD_extractLsb']
  rcases Nat.lt_or_ge i 4 with hlow | hhigh
  · have hmod : (i + 4) % 8 = 4 + i := by omega
    rw [if_pos hlow, decide_eq_true hlow, Bool.true_and, hmod]
  · have hmod : (i + 4) % 8 = 0 + (i - 4) := by omega
    rw [if_neg (by omega), decide_eq_true (by omega), Bool.true_and, hmod]

/-- Each operation is one of the three moves (R260). -/
theorem getLsbD_rotRun (op : RotOp) (v : Byte) (c : Bool) (i : Nat) (hi : i < 8) :
    (rotRun op v c).1.getLsbD i = rotBit op v c i := by
  cases op with
  | rlc => exact getLsbD_shiftUp v (getLsbD_extractBit v 7) hi
  | rl => exact getLsbD_shiftUp v (getLsbD_bitOf c) hi
  | sla => exact getLsbD_shiftUp v rfl hi
  | rrc => exact getLsbD_shiftDown v (getLsbD_extractBit v 0) hi
  | rr => exact getLsbD_shiftDown v (getLsbD_bitOf c) hi
  | sra => exact getLsbD_shiftDown v (getLsbD_extractBit v 7) hi
  | srl => exact getLsbD_shiftDown v rfl hi
  | swap => exact getLsbD_swap v hi

theorem rotRun_carry (op : RotOp) (v : Byte) (c : Bool) : (rotRun op v c).2 = rotCarry op v := by
  cases op <;> rfl

theorem rotRun_isRotation (op : RotOp) (v : Byte) (c : Bool) :
    IsRotation op v c (rotRun op v c).1 (rotFlags (rotRun op v c)) :=
  ⟨getLsbD_rotRun op v c, by rw [rotFlags, rotRun_carry]⟩

/-! ## The bit a bit instruction changes -/

theorem getLsbD_one_shiftLeft (b i : Nat) (hi : i < 8) : ((1 : Byte) <<< b).getLsbD i = decide (i = b) := by
  rw [BitVec.ofNat_eq_ofNat, ← BitVec.twoPow_eq, BitVec.getLsbD_twoPow]
  by_cases h : i = b
  · rw [decide_eq_true h, decide_eq_true h.symm, decide_eq_true (h ▸ hi), Bool.and_self]
  · rw [decide_eq_false h, decide_eq_false (Ne.symm h), Bool.and_false]

/-- `RES` clears bit `b` and keeps the others (R283). -/
theorem getLsbD_resBit (v : Byte) (b i : Nat) (hi : i < 8) :
    (resBit v b).getLsbD i = if i = b then false else v.getLsbD i := by
  rw [resBit, BitVec.getLsbD_and, BitVec.getLsbD_not, getLsbD_one_shiftLeft b i hi, decide_eq_true hi, Bool.true_and]
  by_cases h : i = b
  · rw [if_pos h, decide_eq_true h, Bool.not_true, Bool.and_false]
  · rw [if_neg h, decide_eq_false h, Bool.not_false, Bool.and_true]

/-- `SET` sets bit `b` and keeps the others (R285). -/
theorem getLsbD_setBit (v : Byte) (b i : Nat) (hi : i < 8) :
    (setBit v b).getLsbD i = if i = b then true else v.getLsbD i := by
  rw [setBit, BitVec.getLsbD_or, getLsbD_one_shiftLeft b i hi]
  by_cases h : i = b
  · rw [if_pos h, decide_eq_true h, Bool.or_true]
  · rw [if_neg h, decide_eq_false h, Bool.or_false]

/-! ## What the forms at HL leave -/

/-- A read M-cycle and a write M-cycle at HL, which leave the CPU's registers. -/
theorem State.modifyMem_eq (s : State) (f : Byte → Byte) :
    s.modifyMem f = { (s.memReadState s.cpu.hl).memWrite s.cpu.hl (f (s.memReadValue s.cpu.hl)) with cpu := s.cpu } :=
  State.eq_withCpu (s.modifyMem_cpu f)

/-- A rotate at HL writes `F` besides. -/
theorem State.rotMem_eq (s : State) (op : RotOp) :
    s.rotMem op =
      { (s.memReadState s.cpu.hl).memWrite s.cpu.hl (rotRun op (s.memReadValue s.cpu.hl) s.cpu.f.c).1 with
        cpu := { s.cpu with f := rotFlags (rotRun op (s.memReadValue s.cpu.hl) s.cpu.f.c) } } := by
  rw [State.rotMem, State.modifyMem_eq, State.setFlags]

/-- `BIT b,(HL)` reads, and writes `F` alone. -/
theorem State.testMem_eq (s : State) (b : Ix) :
    s.testMem b = { s.memReadState s.cpu.hl with
      cpu := { s.cpu with f := bitFlags (s.memReadValue s.cpu.hl) b.toNat s.cpu.f } } := by
  rw [State.testMem, State.setFlags, State.memReadState_cpu]

/-! ## The two families -/

/-- An accumulator rotate is the CB form of `A` with Z cleared (R261 to R264). -/
theorem exec_of_rotA {i : Instr} {op : RotOp} (hi : Instr.form i = .rotA op) (s : State) :
    ∃ v f, IsRotation op s.cpu.a s.cpu.f.c v f ∧
      exec i s = .next { s with cpu := s.cpu.withAF v { f with z := false } } := by
  refine ⟨_, _, rotRun_isRotation op s.cpu.a s.cpu.f.c, ?_⟩
  rw [exec_form, hi]; rfl

/-- Settles O17: every form runs `rotRun`, whose bits and carry are those of R260. -/
theorem rotatesAndShifts : Obligations.RotatesAndShifts := by
  intro op s
  refine ⟨fun r => ⟨published_rotReg op r, _, _, rotRun_isRotation op (s.cpu.reg r) s.cpu.f.c, ?_⟩,
    ⟨published_rotMem op, _, _, rotRun_isRotation op (s.memReadValue s.cpu.hl) s.cpu.f.c, ?_⟩, ?_⟩
  · rw [exec_form, Instr.form_rotReg]; rfl
  · rw [exec_form, Instr.form_rotMem, Form.run, State.rotMem_eq]; rfl
  · simp only [List.forall_mem_cons]
    exact ⟨⟨⟨rfl, fun _ => rfl⟩, exec_of_rotA rfl s⟩, ⟨⟨rfl, fun _ => rfl⟩, exec_of_rotA rfl s⟩,
      ⟨⟨rfl, fun _ => rfl⟩, exec_of_rotA rfl s⟩, ⟨⟨rfl, fun _ => rfl⟩, exec_of_rotA rfl s⟩,
      List.forall_mem_nil _⟩

/-- Settles O18: `BIT` leaves flags alone, `RES` and `SET` the byte with its one bit changed, in a register or at HL. -/
theorem bitInstructions : Obligations.BitInstructions := by
  intro b s hl flags isRes isSet
  refine ⟨fun r => ⟨published_bitReg b r, ?_⟩, ⟨published_bitMem b, ?_⟩,
    fun r => ⟨published_resReg b r, _, getLsbD_resBit (s.cpu.reg r) b.toNat, ?_⟩,
    ⟨published_resMem b, _, getLsbD_resBit (s.memReadValue hl) b.toNat, ?_⟩,
    fun r => ⟨published_setReg b r, _, getLsbD_setBit (s.cpu.reg r) b.toNat, ?_⟩,
    ⟨published_setMem b, _, getLsbD_setBit (s.memReadValue hl) b.toNat, ?_⟩⟩
  · rw [exec_form, Instr.form_bitReg]; rfl
  · rw [exec_form, Instr.form_bitMem, Form.run, State.testMem_eq]; rfl
  · rw [exec_form, Instr.form_resReg]; rfl
  · rw [exec_form, Instr.form_resMem, Form.run, State.resMem, State.modifyMem_eq]; rfl
  · rw [exec_form, Instr.form_setReg]; rfl
  · rw [exec_form, Instr.form_setMem, Form.run, State.setBitMem, State.modifyMem_eq]; rfl

end Sys2Proof.Machine
end

section
/-! PROOFS. Control flow (45_control_flow.md R300 to R311): its bytes and M-cycles, and what the jumps, calls and returns
leave, by their shapes. -/

namespace Sys2Proof.Machine

/-! ## Shapes, bytes and M-cycles of each family -/

theorem Instr.form_jpIf (cc : Cond) (nn : Word) : Instr.form (Instr.jpIf cc nn) = .jumpIf cc nn := by cases cc <;> rfl
theorem Instr.form_jrIf (cc : Cond) (e : Byte) : Instr.form (Instr.jrIf cc e) = .jumpRelIf cc e := by cases cc <;> rfl
theorem Instr.form_callIf (cc : Cond) (nn : Word) : Instr.form (Instr.callIf cc nn) = .callIf cc nn := by
  cases cc <;> rfl
theorem Instr.form_retIf (cc : Cond) : Instr.form (Instr.retIf cc) = .retIf cc := by cases cc <;> rfl
theorem Instr.form_rst (y : Ix) : Instr.form (Instr.rst y) = .rst y := by cases y <;> rfl

/-- The M-cycles of a form taken when its flag is clear, by the flag and by its complement. -/
theorem ite_eq_ite_not (b : Bool) (m n : Nat) : (if b then m else n) = if !b then n else m := by cases b <;> rfl

theorem published_jpIf (cc : Cond) (nn : Word) :
    PublishedIf cc (.jpIf cc nn) [opcode 0b11 cc.y 0b010, loByte nn, hiByte nn] 3 4 := by
  cases cc with
  | z | c => exact ⟨rfl, fun _ => rfl⟩
  | nz | nc => exact ⟨rfl, fun _ => ite_eq_ite_not _ 3 4⟩

theorem published_jrIf (cc : Cond) (e : Byte) :
    PublishedIf cc (.jrIf cc e) [opcode 0b00 ((1 : BitVec 1) ++ cc.code) 0b000, e] 2 3 := by
  cases cc with
  | z | c => exact ⟨rfl, fun _ => rfl⟩
  | nz | nc => exact ⟨rfl, fun _ => ite_eq_ite_not _ 2 3⟩

theorem published_callIf (cc : Cond) (nn : Word) :
    PublishedIf cc (.callIf cc nn) [opcode 0b11 cc.y 0b100, loByte nn, hiByte nn] 3 6 := by
  cases cc with
  | z | c => exact ⟨rfl, fun _ => rfl⟩
  | nz | nc => exact ⟨rfl, fun _ => ite_eq_ite_not _ 3 6⟩

theorem published_retIf (cc : Cond) : PublishedIf cc (.retIf cc) [opcode 0b11 cc.y 0b000] 2 5 := by
  cases cc with
  | z | c => exact ⟨rfl, fun _ => rfl⟩
  | nz | nc => exact ⟨rfl, fun _ => ite_eq_ite_not _ 2 5⟩

theorem published_rst (y : Ix) : Published (.rst y) [opcode 0b11 y.code 0b111] 4 := by
  cases y <;> exact ⟨rfl, fun _ => rfl⟩

/-! ## What the shared operations leave -/

/-- The displacement of R304 is signed. -/
theorem relTarget_eq_ofInt (pc : Word) (e : Byte) : relTarget pc e = BitVec.ofInt 16 ((pc.toNat : Int) + e.toInt) :=
  add_sext16_eq_ofInt pc e

theorem next_onCond (s : State) (cc : Cond) (f : State → State) :
    (.next (s.onCond cc f) : Result) = if condHolds s.cpu.f cc then .next (f s) else .next s :=
  apply_ite _ _ _ _

/-- A jump is one idle M-cycle and a new PC (R301, R304). -/
theorem State.jump_eq (s : State) (v : Word) : s.jump v = { s.idle with cpu := { s.cpu with pc := v } } :=
  State.eq_withCpu (s.jump_cpu v)

/-- A call is one idle M-cycle, the old PC pushed and a new one (R306, R310). -/
theorem State.call_eq (s : State) (v : Word) :
    s.call v = { s.idle.push16 s.cpu.pc with cpu := { s.cpu with sp := s.cpu.sp - 2, pc := v } } := by
  obtain ⟨hcpu, -⟩ := s.idle.push16_spec s.cpu.pc
  rw [State.call, State.setPc, hcpu, State.idle_cpu]

/-- A return is PC popped and one idle M-cycle (R308). -/
theorem State.ret_eq (s : State) :
    s.ret = { (s.pop16.2.setPc s.pop16.1).idle with cpu := { s.cpu with sp := s.cpu.sp + 2, pc := s.pop16.1 } } := by
  have hcpu := s.ret_cpu
  rw [add_one_add_one] at hcpu
  exact State.eq_withCpu hcpu

/-- A return from an interrupt is a return that enables interrupts (R311). -/
theorem State.returnFromInterrupt_eq (s : State) :
    s.returnFromInterrupt = { (s.pop16.2.setPc s.pop16.1).idle with
      cpu := { s.cpu with sp := s.cpu.sp + 2, pc := s.pop16.1, ime := .enabled } } := by
  have hret : s.returnFromInterrupt = s.ret.setIme .enabled := rfl
  rw [hret, State.ret_eq, State.setIme]

/-! ## The three families -/

/-- Settles O19: each form jumps, at once or on its condition. -/
theorem jumps : Obligations.Jumps := by
  intro s nn e taken relative
  have jumped (v : Word) : .next (s.jump v) = taken v := congrArg _ (s.jump_eq v)
  have jumpedRelative : .next (s.jump (relTarget s.cpu.pc e)) = taken relative := by
    rw [relTarget_eq_ofInt]; exact jumped relative
  refine ⟨⟨⟨rfl, fun _ => rfl⟩, ?_⟩, ⟨⟨rfl, fun _ => rfl⟩, ?_⟩, ⟨⟨rfl, fun _ => rfl⟩, ?_⟩,
    fun cc => ⟨published_jpIf cc nn, ?_⟩, fun cc => ⟨published_jrIf cc e, ?_⟩,
    iff_of_eq (Bool.not_eq_true' _), Iff.rfl, iff_of_eq (Bool.not_eq_true' _), Iff.rfl⟩
  · rw [exec_form]; exact jumped nn
  · rw [exec_form]; rfl
  · rw [exec_form]; exact jumpedRelative
  · rw [exec_form, Instr.form_jpIf, Form.run, next_onCond, jumped]
  · rw [exec_form, Instr.form_jrIf, Form.run, next_onCond, jumpedRelative]

/-- Settles O20: each form calls, at once or on its condition. -/
theorem callsAndRestarts : Obligations.CallsAndRestarts := by
  intro s nn cc y called
  have hcalled (v : Word) : .next (s.call v) = called v := congrArg _ (s.call_eq v)
  refine ⟨⟨⟨rfl, fun _ => rfl⟩, ?_⟩, ⟨published_callIf cc nn, ?_⟩, ⟨published_rst y, ?_⟩⟩
  · rw [exec_form]; exact hcalled nn
  · rw [exec_form, Instr.form_callIf, Form.run, next_onCond, hcalled]
  · rw [exec_form, Instr.form_rst]; exact hcalled _

/-- Settles O21: each form returns; `RET cc` does so, if at all, from the state after its first idle M-cycle, which has
the same CPU registers. -/
theorem returns : Obligations.Returns := by
  intro s cc returned
  refine ⟨⟨⟨rfl, fun _ => rfl⟩, ?_⟩, ⟨published_retIf cc, ?_⟩, ⟨⟨rfl, fun _ => rfl⟩, ?_⟩⟩
  · rw [exec_form]; exact congrArg _ s.ret_eq
  · rw [exec_form, Instr.form_retIf, Form.run, State.retCond, next_onCond, State.ret_eq, State.idle_cpu]
  · rw [exec_form]; exact congrArg _ s.returnFromInterrupt_eq

end Sys2Proof.Machine
end

section
/-! PROOFS. CPU control (46_cpu_control.md R320 to R326): `PREFIX CB` by the fields of its second byte, the illegal
bytes, and what `NOP`, `DI`, `EI`, `HALT` and `STOP` leave, with the ends of their steps. -/

namespace Sys2Proof.Machine

/-! ## `PREFIX CB` -/

/-- The CB table's cell at a byte has the shape that the byte's fields select (R152). -/
theorem form_cbInstr : ∀ op2 : Byte, Instr.form (cbInstr op2) = cbForm op2 := by
  decide +kernel

theorem exec_prefixCB (op2 : Byte) (s : State) : exec (.prefixCB op2) s = exec (cbInstr op2) s := by
  rw [exec_form, exec_form, form_cbInstr]
  exact runCb_form op2 s

/-- Settles O4: `PREFIX CB` and the table's cell run one shape. -/
theorem prefixRunsCbTable : Obligations.PrefixRunsCbTable :=
  fun op2 s => ⟨rfl, exec_prefixCB op2 s, _, rfl⟩

/-! ## Fetching one byte -/

/-- With the halt bug or without, the opcode is the byte at PC (R141). -/
theorem State.fetchOpcode_val (s : State) : s.fetchOpcode.1 = s.memReadValue s.cpu.pc := by
  unfold State.fetchOpcode; split <;> rfl

/-- Fetching the opcode leaves `IME`. -/
theorem State.fetchOpcode_ime (s : State) : s.fetchOpcode.2.cpu.ime = s.cpu.ime := by
  unfold State.fetchOpcode; split
  · rw [State.setHaltBug_cpu_ime, State.memReadState_cpu]
  · rw [State.fetch8_cpu]

/-- A byte that is a whole instruction is fetched as that instruction. -/
theorem State.fetchInstr_of_decode {s : State} {op : Byte} {i : Instr} (hop : s.fetchOpcode.1 = op)
    (h : decode [op] = .ok (i, [])) : s.fetchInstr = (i, s.fetchOpcode.2) :=
  State.fetchInstr_of_one (spells_of_decode (hop ▸ h))

/-! ## The illegal bytes -/

/-- A row of the eleven encodes to its byte, and its shape is the fault (R155, R326). -/
theorem illegalOpcodes_spec : ∀ p ∈ illegalOpcodes,
    p.1 ∈ ([0xD3, 0xDB, 0xDD, 0xE3, 0xE4, 0xEB, 0xEC, 0xED, 0xF4, 0xFC, 0xFD] : List Byte) ∧
    encode p.2 = [p.1] ∧ WellFormed p.2 ∧ Instr.form p.2 = .illegal p.1 := by
  decide

/-- An instruction that faults leaves the block where its fetches left it (R326). -/
theorem State.afterStep_of_fault {s u : State} {i : Instr} {r : Fault} (hrun : s.cpu.halted = false)
    (h : s.beginStep.fetchInstr = (i, u)) (hfault : exec i u = .fault r) : s.afterStep = u := by
  have hb : ¬ s.beginStep.cpu.halted = true := by simp [hrun]
  unfold State.afterStep
  dsimp only
  rw [if_neg hb, h, hfault]

/-- Settles O6: the eleven rows have the shape of the fault, and the step of a byte that is a whole row is that row's. -/
theorem illegalOpcodesFault : Obligations.IllegalOpcodesFault := by
  intro p hp
  obtain ⟨hmem, henc, hwf, hform⟩ := illegalOpcodes_spec p hp
  have hdecode : decode [p.1] = .ok (p.2, []) := by
    have e := decodeOfEncode p.2 [] hwf
    rwa [henc] at e
  have hexec (s : State) : exec p.2 s = .fault (.illegalOpcode p.1) := by rw [exec_form, hform]; rfl
  refine ⟨hmem, henc, hdecode, hexec, fun s hrun hbyte => ?_⟩
  have hop : s.beginStep.fetchOpcode.1 = p.1 := by rw [State.fetchOpcode_val, State.beginStep_cpu, hbyte]
  have hfetch := State.fetchInstr_of_decode hop hdecode
  refine ⟨?_, fun hbug => ?_⟩
  · rw [step_of_fetchInstr hrun hfetch, hexec]; rfl
  · have hb : s.beginStep.cpu.haltBugPending = false := by rw [State.beginStep_cpu, hbug]
    rw [State.afterStep_of_fault hrun hfetch (hexec _), State.fetchOpcode_of_not hb, State.fetch8, State.beginStep_cpu]

/-! ## `NOP`, `DI` and `EI` -/

/-- With `IME` not `Enabled`, the check at the step's end takes no interrupt (R350). -/
theorem State.endStep_of_not_enabled {s : State} (h : s.cpu.ime ≠ .enabled) :
    s.endStep = .next (if s.irq.pending = 0 then s else s.setHalted false) := by
  unfold State.endStep
  rw [if_neg h]
  split <;> rfl

theorem State.endStep_next_ime {s t : State} (h : s.cpu.ime ≠ .enabled) (e : s.endStep = .next t) :
    t.cpu.ime = s.cpu.ime := by
  rw [State.endStep_of_not_enabled h] at e
  obtain rfl := Host.Outcome.next.inj e
  split <;> rfl

/-- A step that began `Pending` promotes a state that is `Pending` still (R347). -/
theorem State.promoteIme_of_pending {s : State} (h : s.cpu.ime = .pending) : s.promoteIme true = s.setIme .enabled := by
  simp [State.promoteIme, h]

theorem State.ei_of_disabled {s : State} (h : s.cpu.ime = .disabled) : s.ei = s.setIme .pending := if_pos h

theorem State.ei_eq (s : State) :
    s.ei = { s with cpu := { s.cpu with ime := if s.cpu.ime = .disabled then .pending else s.cpu.ime } } := by
  unfold State.ei; split <;> rfl

/-- A step from `Disabled` that fetches `EI` runs to the check with `IME` `Pending`: the promotion is for a step that
began so (R324, R347). -/
theorem step_of_ei {s : State} (hrun : s.cpu.halted = false) (hime : s.cpu.ime = .disabled)
    (hop : s.beginStep.fetchOpcode.1 = 0xFB) : step s = (s.beginStep.fetchOpcode.2.setIme .pending).endStep := by
  have hf : s.beginStep.fetchOpcode.2.cpu.ime = .disabled := by rw [State.fetchOpcode_ime, State.beginStep_cpu, hime]
  have hei : exec .ei s.beginStep.fetchOpcode.2 = .next s.beginStep.fetchOpcode.2.ei := exec_form _ _
  rw [step_of_fetchInstr hrun (State.fetchInstr_of_decode hop rfl), hei, State.ei_of_disabled hf, hime]
  rfl

/-- A step that began `Pending`, and whose instruction leaves it so, ends with the check on `Enabled` (R324, R350). -/
theorem step_of_pending {s u : State} (hrun : s.cpu.halted = false) (hime : s.cpu.ime = .pending)
    (e : exec s.beginStep.fetchInstr.1 s.beginStep.fetchInstr.2 = .next u) (hu : u.cpu.ime = .pending) :
    step s = (u.setIme .enabled).endStep := by
  rw [step_of_fetchInstr hrun (Prod.eta _).symm, e, hime, ← State.promoteIme_of_pending hu]
  rfl

/-- Settles O22: the three meanings by their shapes, and the ends of the steps by what the check does with each `IME`. -/
theorem nopDiAndEi : Obligations.NopDiAndEi := by
  refine ⟨fun s => ⟨⟨⟨rfl, fun _ => rfl⟩, exec_form _ _⟩, ⟨⟨rfl, fun _ => rfl⟩, exec_form _ _⟩,
    ⟨_, State.endStep_of_not_enabled nofun, ?_⟩, ⟨rfl, fun _ => rfl⟩, ?_⟩, fun s t hrun hime hop e => ?_,
    fun s u hrun hime e hu => step_of_pending hrun hime e hu⟩
  · split <;> exact ⟨rfl, rfl, rfl, rfl⟩
  · rw [exec_form]; exact congrArg _ s.ei_eq
  · rw [step_of_ei hrun hime hop] at e
    exact State.endStep_next_ime (by nofun) e

/-! ## `HALT` -/

/-- When `HALT` meets its bug (R321). -/
theorem State.halt_eq (s : State) :
    s.halt = if s.params.haltBug = true ∧ s.cpu.ime ≠ .enabled ∧ s.irq.pending ≠ 0 then s.setHaltBug true
      else s.setHalted true := by
  simp only [State.halt, Bool.and_eq_true, decide_eq_true_eq, and_assoc]

/-- Settles O23: the two branches of the shape. -/
theorem haltInstruction : Obligations.HaltInstruction := by
  intro s bug
  refine ⟨⟨rfl, fun _ => rfl⟩, fun h => ?_, fun h => ?_⟩
  · rw [exec_form]; exact congrArg _ (s.halt_eq.trans (if_neg h))
  · rw [exec_form]; exact congrArg _ (s.halt_eq.trans (if_pos h))

/-! ## `STOP` -/

theorem State.idles_outer (n : Nat) (s : State) : (State.idles n s).outer = s.outer := by
  induction n generalizing s with
  | zero => rfl
  | succ n ih => rw [State.idles, ih, State.idle_outer]

theorem State.idles_doubleSpeed (n : Nat) (s : State) : (State.idles n s).doubleSpeed = s.doubleSpeed :=
  congrArg Untouched.doubleSpeed (State.idles_outer n s)

theorem State.idles_key1Armed (n : Nat) (s : State) : (State.idles n s).key1Armed = s.key1Armed :=
  congrArg Untouched.key1Armed (State.idles_outer n s)

/-- Each of the M-cycles puts its entry on the bus trace (R97). -/
theorem State.idles_trace (n : Nat) (s : State) : (State.idles n s).trace = List.replicate n .idle ++ s.trace := by
  induction n generalizing s with
  | zero => rfl
  | succ n ih => rw [State.idles, ih, State.idle_trace, List.replicate_succ', List.append_assoc]; rfl

theorem State.stopOperand_outer (s : State) : s.stopOperand.outer = s.outer := by
  unfold State.stopOperand; split
  · exact s.memReadState_outer s.cpu.pc
  · rfl

theorem State.stopOperand_params (s : State) : s.stopOperand.params = s.params :=
  congrArg Untouched.params s.stopOperand_outer

theorem State.stopOperand_doubleSpeed (s : State) : s.stopOperand.doubleSpeed = s.doubleSpeed :=
  congrArg Untouched.doubleSpeed s.stopOperand_outer

theorem State.stopOperand_key1Armed (s : State) : s.stopOperand.key1Armed = s.key1Armed :=
  congrArg Untouched.key1Armed s.stopOperand_outer

/-- Fetching the operand changes neither the model nor the arming, so the state before it decides (R322). -/
theorem State.stop_eq (s : State) :
    s.stop = if s.isCgb && s.key1Armed then s.stopOperand.switchSpeed else s.stopOperand := by
  unfold State.stop State.isCgb
  dsimp only
  rw [s.stopOperand_params, s.stopOperand_key1Armed]

theorem State.switchSpeed_cpu (s : State) : s.switchSpeed.cpu = s.cpu := State.idles_cpu _ _

theorem State.switchSpeed_doubleSpeed (s : State) : s.switchSpeed.doubleSpeed = !s.doubleSpeed :=
  State.idles_doubleSpeed _ _

theorem State.switchSpeed_key1Armed (s : State) : s.switchSpeed.key1Armed = false := State.idles_key1Armed _ _

theorem State.switchSpeed_trace (s : State) :
    s.switchSpeed.trace = List.replicate Config.speedSwitchMcycles .idle ++ s.trace := State.idles_trace _ _

theorem exec_stop (s : State) :
    exec .stop s = .next (if s.isCgb && s.key1Armed then s.stopOperand.switchSpeed else s.stopOperand) := by
  rw [exec_form]; exact congrArg _ s.stop_eq

/-- Settles O24: `u` is the state after the operand, and the speed switch is the idle M-cycles from there. -/
theorem stopInstruction : Obligations.StopInstruction := by
  intro s u
  have hu : s.stopOperand = u := rfl
  refine ⟨⟨rfl, fun _ => rfl⟩, fun h => ?_, fun hcgb harmed => ?_⟩
  · have hoff : ¬ (s.isCgb && s.key1Armed) = true := by
      rcases h with hdmg | hkey
      · rw [State.isCgb_of_dmg hdmg]; exact nofun
      · rw [hkey, Bool.and_false]; exact nofun
    rw [exec_stop, if_neg hoff, hu]
  · have hon : (s.isCgb && s.key1Armed) = true := by rw [State.isCgb_iff.2 hcgb, harmed]; rfl
    have hstop : exec .stop s = .next u.switchSpeed := by rw [exec_stop, if_pos hon, hu]
    have hspeed : u.doubleSpeed = s.doubleSpeed := s.stopOperand_doubleSpeed
    refine ⟨?_, u.switchSpeed, hstop, u.switchSpeed_cpu, ?_, u.switchSpeed_key1Armed, u.switchSpeed_trace⟩
    · rw [hstop, State.switchSpeed, Config.speedSwitchMcycles, hspeed]
    · rw [u.switchSpeed_doubleSpeed, hspeed]

end Sys2Proof.Machine
end

section
/-! PROOFS. Taking an interrupt and the end of a step (60_exceptions.md R347 to R353, R365): the source that is chosen, what
the check does with each `IME`, and which instructions change `IME` or halt the CPU. -/

namespace Sys2Proof.Machine

/-! ## The bits of IF (R341 to R343) -/

theorem getLsbD_irqBit (i j : Nat) : (irqBit i).getLsbD j = (decide (j < 5) && decide (i = j)) := by
  rw [irqBit, BitVec.getLsbD_ofNat, Nat.testBit_two_pow]

/-- Clearing the bit of one source leaves the others (R351). -/
theorem getLsbD_clear_irqBit (flags : BitVec 5) {i j : Nat} (hj : j < 5) :
    (flags &&& ~~~ irqBit i).getLsbD j = if j = i then false else flags.getLsbD j := by
  rw [BitVec.getLsbD_and, BitVec.getLsbD_not, getLsbD_irqBit]
  by_cases h : j = i
  · simp [h]
  · simp [h, hj, Ne.symm h]

/-- A request is pending for a source that is both enabled and requested (R342). -/
theorem Irq.getLsbD_pending {q : Irq} {i : Nat} (hi : i < 5) :
    q.pending.getLsbD i = true ↔ q.ie.getLsbD i = true ∧ q.flags.getLsbD i = true := by
  rw [Irq.pending, BitVec.getLsbD_and, BitVec.getLsbD_setWidth, decide_eq_true hi, Bool.true_and, Bool.and_eq_true]

/-- The chosen source is the one that is set with none below it set (R343). -/
theorem lowestIrq_eq {p : BitVec 5} {i : Nat} (hi : i < 5) (hp : p.getLsbD i = true)
    (hlow : ∀ j < i, ¬ p.getLsbD j = true) : lowestIrq p = i := by
  unfold lowestIrq
  match i with
  | 0 => rw [if_pos hp]
  | 1 => rw [if_neg (hlow 0 (by decide)), if_pos hp]
  | 2 => rw [if_neg (hlow 0 (by decide)), if_neg (hlow 1 (by decide)), if_pos hp]
  | 3 => rw [if_neg (hlow 0 (by decide)), if_neg (hlow 1 (by decide)), if_neg (hlow 2 (by decide)), if_pos hp]
  | 4 =>
    rw [if_neg (hlow 0 (by decide)), if_neg (hlow 1 (by decide)), if_neg (hlow 2 (by decide)),
      if_neg (hlow 3 (by decide)), if_pos hp]
  | _ + 5 => omega

/-! ## Taking an interrupt (R351, R353) -/

theorem State.takeInterrupt_of_none {s : State} (h : s.dispatchCycles.irq.pending = 0) :
    s.takeInterrupt = .fault .irqVanished := if_pos h

theorem State.takeInterrupt_of_pending {s : State} (h : s.dispatchCycles.irq.pending ≠ 0) :
    s.takeInterrupt = .next (s.dispatchCycles.enterHandler (lowestIrq s.dispatchCycles.irq.pending)) := if_neg h

/-- The handler is entered with the CPU as it was before the dispatch, but for SP, PC and `IME`. -/
theorem State.enterHandler_dispatchCycles (s : State) (i : Nat) :
    s.dispatchCycles.enterHandler i = { s.dispatchCycles with
      irq := { s.dispatchCycles.irq with flags := s.dispatchCycles.irq.flags &&& ~~~ irqBit i }
      cpu := { s.cpu with sp := s.cpu.sp - 2, pc := vector i, ime := .disabled } } := by
  have hcpu := s.dispatchCycles_cpu
  rw [sub_one_sub_one] at hcpu
  rw [State.enterHandler, State.setIme, State.setPc, hcpu]

/-- Settles O25: the state after the pushes decides between the fault and the handler of its lowest source. -/
theorem interruptDispatch : Obligations.InterruptDispatch := by
  intro s t
  have ht : s.dispatchCycles = t := rfl
  clear_value t
  refine ⟨fun hnone => State.takeInterrupt_of_none (ht ▸ hnone), fun i hi hie hflag hlow =>
    ⟨t.irq.flags &&& ~~~ irqBit i, fun j => getLsbD_clear_irqBit _, ?_⟩⟩
  have hset : t.irq.pending.getLsbD i = true := (Irq.getLsbD_pending hi).2 ⟨hie, hflag⟩
  have hlowest : lowestIrq t.irq.pending = i :=
    lowestIrq_eq hi hset fun j hj hset => hlow j hj ((Irq.getLsbD_pending (Nat.lt_trans hj hi)).1 hset)
  have hsome : t.irq.pending ≠ 0 := fun hnone => by
    rw [hnone] at hset
    exact nomatch hset.symm.trans BitVec.getLsbD_zero
  rw [State.takeInterrupt_of_pending (ht ▸ hsome), State.enterHandler_dispatchCycles, ht, hlowest, vector]

/-! ## The end of a step (R350) -/

theorem State.endStep_of_none {s : State} (h : s.irq.pending = 0) : s.endStep = .next s := if_pos h

theorem State.endStep_of_enabled {s : State} (h : s.irq.pending ≠ 0) (hime : s.cpu.ime = .enabled) :
    s.endStep = (s.setHalted false).takeInterrupt := (if_neg h).trans (if_pos hime)

/-- With no source enabled none is pending. -/
theorem Irq.pending_of_ie {q : Irq} (h : q.ie.setWidth 5 = (0 : BitVec 5)) : q.pending = 0 := by
  rw [Irq.pending, h]; exact BitVec.zero_and

@[simp] theorem State.beginStep_trace (s : State) : s.beginStep.trace = [] := by
  unfold State.beginStep; split <;> rfl

@[simp] theorem State.beginStep_irq (s : State) : s.beginStep.irq = s.irq := by
  unfold State.beginStep; split <;> rfl

@[simp] theorem State.idle_ie (s : State) : s.idle.irq.ie = s.irq.ie := congrArg Untouched.ie s.idle_outer

/-- A step with the CPU halted is one idle M-cycle and the check (R321). -/
theorem step_of_halted {s : State} (h : s.cpu.halted = true) : step s = s.beginStep.idle.endStep := by
  have hb : s.beginStep.cpu.halted = true := by rw [State.beginStep_cpu, h]
  exact if_pos hb

/-- Settles O26: the three branches of the check; and an idle M-cycle changes no source that is enabled. -/
theorem stepEnd : Obligations.StepEnd := by
  refine ⟨fun s => ⟨State.endStep_of_none, State.endStep_of_enabled, fun h hime => ?_⟩, fun s hhalt =>
    ⟨step_of_halted hhalt, fun hie => ⟨s.beginStep.idle, ?_, ?_, ?_, ?_⟩⟩⟩
  · rw [State.endStep_of_not_enabled hime]; exact congrArg _ (if_neg h)
  · have hnone : s.beginStep.idle.irq.pending = 0 :=
      Irq.pending_of_ie (by rw [State.idle_ie, State.beginStep_irq, hie])
    rw [step_of_halted hhalt, State.endStep_of_none hnone]
  · rw [State.idle_cpu, State.beginStep_cpu]
  · rw [State.idle_trace, State.beginStep_trace]
  · rw [State.idle_ie, State.beginStep_irq]

/-! ## `IME` and the halt while an instruction runs (R347, R365) -/

/-- The CPU's control state: `IME`, `halted` and `haltBugPending` (R26, R27). -/
structure CpuControl where
  ime : Ime
  halted : Bool
  haltBugPending : Bool

def Cpu.control (c : Cpu) : CpuControl := { ime := c.ime, halted := c.halted, haltBugPending := c.haltBugPending }

/-- The shapes that change it. -/
def Form.setsControl : Form → Bool
  | .ei | .di | .reti | .halt => true
  | _ => false

/-- Each of them is the shape of one instruction. -/
theorem Instr.mem_of_setsControl {i : Instr} (h : (Instr.form i).setsControl = true) :
    i ∈ [Instr.ei, .di, .reti, .halt] := by
  cases i with
  | ei | di | reti | halt => decide
  | _ => exact nomatch h

theorem Cpu.withReg_control (c : Cpu) (r : Reg) (v : Byte) : (c.withReg r v).control = c.control := by
  cases r <;> rfl

theorem Cpu.withPair_control (c : Cpu) (p : Pair) (v : Word) : (c.withPair p v).control = c.control := by
  cases p <;> rfl

theorem State.onCond_control {s : State} (cc : Cond) {f : State → State} (h : (f s).cpu.control = s.cpu.control) :
    (s.onCond cc f).cpu.control = s.cpu.control := by
  unfold State.onCond; split
  · exact h
  · rfl

theorem State.modifyMem_control (s : State) (f : Byte → Byte) : (s.modifyMem f).cpu.control = s.cpu.control := by
  rw [State.modifyMem_cpu]

theorem State.setFlags_control (s : State) (f : Flags) : (s.setFlags f).cpu.control = s.cpu.control := rfl

theorem State.rotMem_control (s : State) (op : RotOp) : (s.rotMem op).cpu.control = s.cpu.control := by
  rw [State.rotMem, State.setFlags_control, State.modifyMem_control]

theorem State.testMem_control (s : State) (b : Ix) : (s.testMem b).cpu.control = s.cpu.control := by
  rw [State.testMem, State.setFlags_control, State.memReadState_cpu]

/-- The fields of `op2` select among shapes that keep the control state. -/
theorem State.runCb_control (s : State) (op2 : Byte) : (s.runCb op2).cpu.control = s.cpu.control := by
  unfold State.runCb
  dsimp only
  split
  · exact s.cpu.withReg_control _ _
  · exact s.rotMem_control _
  · rfl
  · exact s.testMem_control _
  · exact s.cpu.withReg_control _ _
  · exact s.modifyMem_control _
  · exact s.cpu.withReg_control _ _
  · exact s.modifyMem_control _

/-- Fetching its operand moves PC, and the switch is made of idle M-cycles (R322). -/
theorem State.stop_control (s : State) : s.stop.cpu.control = s.cpu.control := by
  have hop : s.stopOperand.cpu.control = s.cpu.control := by
    unfold State.stopOperand; split
    · rw [State.fetch8_cpu]; rfl
    · rfl
  rw [State.stop_eq]; split
  · rw [State.switchSpeed_cpu, hop]
  · exact hop

/-- No other shape changes the control state. -/
theorem Form.control_of_next {s t : State} {f : Form} (e : f.run s = .next t) (hf : f.setsControl = false) :
    t.cpu.control = s.cpu.control := by
  have get {u : State} (eq : Host.Outcome.next u = f.run s) (hu : u.cpu.control = s.cpu.control) :
      t.cpu.control = s.cpu.control :=
    Host.Outcome.next.inj (eq.trans e) ▸ hu
  cases f with
  | illegal => exact nomatch e
  | ei | di | reti | halt => exact nomatch hf
  | nop | daa | cpl | scf | ccf | jumpHl | alu | aluReg | rotA | testReg => exact get rfl rfl
  | setReg | copyReg | resReg | setBitReg | incReg | decReg | rotReg => exact get rfl (s.cpu.withReg_control _ _)
  | setPair => exact get rfl (s.cpu.withPair_control _ _)
  | rotMem => exact get rfl (s.rotMem_control _)
  | resMem | setBitMem => exact get rfl (s.modifyMem_control _)
  | testMem => exact get rfl (s.testMem_control _)
  | storeReg | storeImm | storeSp | incMem | decMem =>
    exact get rfl (by simp [State.incMem, State.decMem, Cpu.control])
  | loadReg | loadBump | storeBump | aluMem =>
    exact get rfl (by simp [State.bumpHl, State.aluMem, State.alu, Cpu.control])
  | spFromHl | push | pop | jump | jumpRel | call | rst | ret => exact get rfl (by simp [State.rst, Cpu.control])
  | leaHl | addHl | addSp | incPair | decPair =>
    exact get rfl (by simp [State.leaHl, State.addHl, State.addSp, State.incPair, State.decPair, Cpu.control])
  | jumpIf cc | jumpRelIf cc | callIf cc => exact get rfl (State.onCond_control cc (by simp [Cpu.control]))
  | retIf cc =>
    exact get rfl ((State.onCond_control cc (by simp [Cpu.control])).trans (congrArg Cpu.control s.idle_cpu))
  | stop => exact get rfl s.stop_control
  | runCb => exact get rfl (s.runCb_control _)

theorem State.halt_ime (s : State) : s.halt.cpu.ime = s.cpu.ime := by
  rw [State.halt_eq]; split <;> rfl

/-- Settles O27: of the four instructions that set the control state, `HALT` leaves `IME` and the others the rest. -/
theorem onlyTheseChangeIme : Obligations.OnlyTheseChangeIme := by
  intro i s t e
  rw [exec_form] at e
  cases hf : (Instr.form i).setsControl with
  | false =>
    have h := Form.control_of_next e hf
    exact ⟨fun _ _ _ => congrArg CpuControl.ime h,
      fun _ => ⟨congrArg CpuControl.halted h, congrArg CpuControl.haltBugPending h⟩⟩
  | true =>
    have hmem := Instr.mem_of_setsControl hf
    simp only [List.mem_cons, List.not_mem_nil, or_false] at hmem
    obtain rfl | rfl | rfl | rfl := hmem <;> obtain rfl := Host.Outcome.next.inj e
    · exact ⟨fun h => absurd rfl h, fun _ => by rw [State.ei_eq]; exact ⟨rfl, rfl⟩⟩
    · exact ⟨fun _ h => absurd rfl h, fun _ => ⟨rfl, rfl⟩⟩
    · exact ⟨fun _ _ h => absurd rfl h, fun _ => by rw [State.returnFromInterrupt_cpu]; exact ⟨rfl, rfl⟩⟩
    · exact ⟨fun _ _ _ => s.halt_ime, fun h => absurd rfl h⟩

end Sys2Proof.Machine
end

section
/-! PROOFS. What one dot of the PPU does to `LY`, to the STAT line and to the count of frames (65_ppu.md R487, R491, R495),
for every state of the PPU. -/

namespace Sys2Proof.Machine

/-! ## The STAT line changes only where it is evaluated (R491) -/

theorem Ppu.bgFetchStep_statLine (v : Video) (p : Ppu) : (p.bgFetchStep v).statLine = p.statLine := by
  unfold Ppu.bgFetchStep
  dsimp only
  split
  · rfl
  · split <;> rfl
  · split <;> rfl
  · split
    · rfl
    · split <;> rfl

theorem Ppu.drawStep_statLine (v : Video) (p : Ppu) : (p.drawStep v).ppu.statLine = p.statLine := by
  unfold Ppu.drawStep
  split
  · rfl
  · split
    · rfl
    · split
      · rfl
      · unfold Ppu.popPixel; split <;> rfl

theorem Ppu.mode3Dot_statLine (v : Video) (p : Ppu) : (p.mode3Dot v).ppu.statLine = p.statLine := by
  unfold Ppu.mode3Dot
  split
  · unfold Ppu.spriteStep; split <;> rfl
  · exact (Ppu.drawStep_statLine v _).trans (p.bgFetchStep_statLine v)

/-! ## The parts of a dot (R495) -/

/-- What the first part of a dot does: one dot on in the same line. -/
structure DotOut.Advances (p : Ppu) (o : DotOut) : Prop where
  ly : o.ppu.ly = p.ly
  dot : o.ppu.dot = p.dot + 1
  statLine : o.ppu.statLine = p.statLine
  vblank : o.vblank = false

theorem Ppu.dotBody_advances (v : Video) (p : Ppu) : (p.dotBody v).Advances p := by
  unfold Ppu.dotBody
  split
  · dsimp only; split <;> exact ⟨rfl, rfl, rfl, rfl⟩
  · have hplace := (Ppu.mode3Dot_drawsFrom v p).place
    have hly : (p.mode3Dot v).ppu.ly = p.ly := congrArg PpuPlace.ly hplace
    have hdot : (p.mode3Dot v).ppu.dot + 1 = p.dot + 1 := congrArg (·.dot + 1) hplace
    have hline := p.mode3Dot_statLine v
    dsimp only
    split <;> exact ⟨hly, hdot, hline, rfl⟩
  · exact ⟨rfl, rfl, rfl, rfl⟩
  · exact ⟨rfl, rfl, rfl, rfl⟩

theorem Ppu.dotBody_lcdOn (v : Video) (p : Ppu) : (p.dotBody v).ppu.lcdOn = p.lcdOn :=
  Ppu.lcdOn_of_regs (p.dotBody_regs v)

theorem Ppu.beginLine_keeps (p : Ppu) :
    p.beginLine.ly = p.ly ∧ p.beginLine.dot = p.dot ∧ p.beginLine.statLine = p.statLine := by
  unfold Ppu.beginLine; split <;> exact ⟨rfl, rfl, rfl⟩

theorem Ppu.nextLine_keeps (p : Ppu) : p.nextLine.dot = 0 ∧ p.nextLine.statLine = p.statLine := by
  unfold Ppu.nextLine
  dsimp only
  split
  · exact ⟨rfl, rfl⟩
  · split <;> exact ⟨rfl, rfl⟩

/-- Line 144 follows line 143 alone. -/
theorem Ppu.nextLine_ly_eq_iff (p : Ppu) : p.nextLine.ly = 144 ↔ p.ly = 143 := by
  unfold Ppu.nextLine
  dsimp only
  split
  · next h => exact ⟨fun _ => by bv_omega, fun _ => h⟩
  · next h =>
    split
    · exact ⟨nofun, fun e => absurd (by rw [e]; rfl) h⟩
    · exact ⟨fun e => absurd e h, fun e => absurd (by rw [e]; rfl) h⟩

/-- VBlank begins with line 144, and stays when the line begins (R495, R496). -/
theorem Ppu.nextLine_beginLine_mode {p : Ppu} (h : p.ly = 143) : p.nextLine.beginLine.mode = .vblank := by
  have hly := p.nextLine_ly_eq_iff.2 h
  have hmode : p.nextLine.mode = .vblank := congrArg Ppu.mode (if_pos (by rw [h]; rfl))
  have hbegin : p.nextLine.beginLine = p.nextLine := if_neg (by rw [hly]; decide)
  rw [hbegin, hmode]

theorem DotOut.endLine_of_last {o : DotOut} (h : o.ppu.dot = 456) :
    o.endLine = { o with ppu := o.ppu.nextLine.beginLine, vblank := decide (o.ppu.nextLine.ly = 144) } := if_pos h

theorem DotOut.endLine_of_not_last {o : DotOut} (h : o.ppu.dot ≠ 456) : o.endLine = o := if_neg h

theorem DotOut.endLine_statLine (o : DotOut) : o.endLine.ppu.statLine = o.ppu.statLine := by
  unfold DotOut.endLine
  split
  · exact o.ppu.nextLine.beginLine_keeps.2.2.trans o.ppu.nextLine_keeps.2
  · rfl

theorem Ppu.statUpdate_place (p : Ppu) : p.statUpdate.place = p.place := by
  unfold Ppu.statUpdate; split <;> rfl

/-- With the LCD on, the line rises exactly when it was low and is high after its evaluation (R491). -/
theorem Ppu.statRises_iff {p : Ppu} (hon : p.lcdOn = true) :
    p.statRises = true ↔ p.statLine = false ∧ p.statUpdate.statLine = true := by
  have hline : p.statUpdate.statLine = p.statSources := congrArg Ppu.statLine (if_pos hon)
  rw [hline, Ppu.statRises, hon, Bool.true_and, Bool.and_eq_true, Bool.not_eq_true', and_comm]

/-! ## One dot (R495) -/

theorem Ppu.dotStep_of_on (v : Video) {p : Ppu} (hon : p.lcdOn = true) :
    p.dotStep v = (p.dotBody v).endLine.statEnd := if_pos hon

theorem Ppu.dotStep_of_off (v : Video) {p : Ppu} (hoff : ¬ p.lcdOn = true) :
    p.dotStep v = { ppu := p, pixel := none, hblank := false, vblank := false, stat := false } := if_neg hoff

/-- The last dot of line 143, with the LCD on: the one that begins VBlank. -/
def Ppu.EndsFrame (p : Ppu) : Prop := p.lcdOn = true ∧ p.ly = 143 ∧ p.dot = 455

theorem Ppu.dotStep_lcdOn (v : Video) (p : Ppu) : (p.dotStep v).ppu.lcdOn = p.lcdOn :=
  Ppu.lcdOn_of_regs (p.dotStep_regs v)

/-- A dot announces VBlank exactly when it ends line 143 (R487, R495). -/
theorem Ppu.dotStep_vblank_iff (v : Video) (p : Ppu) : (p.dotStep v).vblank = true ↔ p.EndsFrame := by
  by_cases hon : p.lcdOn = true
  · have hb := p.dotBody_advances v
    rw [Ppu.dotStep_of_on v hon]
    show (p.dotBody v).endLine.vblank = true ↔ _
    by_cases hlast : p.dot = 455
    · have hdot : (p.dotBody v).ppu.dot = 456 := by rw [hb.dot, hlast]
      rw [DotOut.endLine_of_last hdot, decide_eq_true_iff, Ppu.nextLine_ly_eq_iff, hb.ly]
      exact ⟨fun h => ⟨hon, h, hlast⟩, fun h => h.2.1⟩
    · have hdot : (p.dotBody v).ppu.dot ≠ 456 := by rw [hb.dot]; omega
      rw [DotOut.endLine_of_not_last hdot, hb.vblank]
      exact ⟨nofun, fun h => absurd h.2.2 hlast⟩
  · rw [Ppu.dotStep_of_off v hon]
    exact ⟨nofun, fun h => absurd h.1 hon⟩

/-- A dot announces a rise of the STAT line exactly when the line rose on it (R491). -/
theorem Ppu.dotStep_stat_iff (v : Video) (p : Ppu) :
    (p.dotStep v).stat = true ↔ p.statLine = false ∧ (p.dotStep v).ppu.statLine = true := by
  by_cases hon : p.lcdOn = true
  · have hon' : (p.dotBody v).endLine.ppu.lcdOn = true :=
      (Ppu.lcdOn_of_regs (DotOut.endLine_regs _)).trans ((p.dotBody_lcdOn v).trans hon)
    have hline : (p.dotBody v).endLine.ppu.statLine = p.statLine :=
      (DotOut.endLine_statLine _).trans (p.dotBody_advances v).statLine
    rw [Ppu.dotStep_of_on v hon, ← hline]
    exact Ppu.statRises_iff hon'
  · rw [Ppu.dotStep_of_off v hon]
    exact ⟨nofun, fun ⟨hlow, hhigh⟩ => nomatch hlow.symm.trans hhigh⟩

/-- After the dot that ends line 143 the PPU is at the start of line 144, in VBlank. -/
theorem Ppu.EndsFrame.dotStep_place {p : Ppu} (h : p.EndsFrame) (v : Video) :
    (p.dotStep v).ppu.place = { mode := .vblank, ly := 144, dot := 0 } := by
  obtain ⟨hon, hly, hlast⟩ := h
  have hb := p.dotBody_advances v
  have hdot : (p.dotBody v).ppu.dot = 456 := by rw [hb.dot, hlast]
  have hly' : (p.dotBody v).ppu.ly = 143 := hb.ly.trans hly
  obtain ⟨kly, kdot, -⟩ := (p.dotBody v).ppu.nextLine.beginLine_keeps
  rw [Ppu.dotStep_of_on v hon, DotOut.endLine_of_last hdot]
  refine (Ppu.statUpdate_place _).trans ?_
  rw [Ppu.place, Ppu.nextLine_beginLine_mode hly', kly, kdot, (Ppu.nextLine_ly_eq_iff _).2 hly',
    (Ppu.nextLine_keeps _).1]

/-- Before the end of a line a dot stays in it. -/
theorem Ppu.dotStep_within (v : Video) {p : Ppu} (hon : p.lcdOn = true) (h : p.dot < 455) :
    (p.dotStep v).ppu.ly = p.ly ∧ (p.dotStep v).ppu.dot = p.dot + 1 := by
  have hb := p.dotBody_advances v
  have hdot : (p.dotBody v).ppu.dot ≠ 456 := by rw [hb.dot]; omega
  rw [Ppu.dotStep_of_on v hon, DotOut.endLine_of_not_last hdot]
  have hplace := (p.dotBody v).ppu.statUpdate_place
  exact ⟨(congrArg PpuPlace.ly hplace).trans hb.ly, (congrArg PpuPlace.dot hplace).trans hb.dot⟩

/-! ## The dots of an M-cycle -/

theorem State.ppuDots_add (m n : Nat) (s : State) : State.ppuDots (m + n) s = State.ppuDots n (State.ppuDots m s) := by
  induction m generalizing s with
  | zero => rw [Nat.zero_add]; rfl
  | succ m ih => rw [Nat.succ_add]; exact ih s.ppuDot

theorem State.ppuDots_succ (n : Nat) (s : State) : State.ppuDots (n + 1) s = (State.ppuDots n s).ppuDot :=
  State.ppuDots_add n 1 s

theorem State.ppuDot_framesDone_of_endsFrame {s : State} (h : s.ppu.EndsFrame) :
    s.ppuDot.framesDone = s.framesDone + 1 := if_pos ((Ppu.dotStep_vblank_iff _ _).2 h)

theorem State.ppuDot_framesDone_of_not {s : State} (h : ¬ s.ppu.EndsFrame) : s.ppuDot.framesDone = s.framesDone :=
  if_neg (mt (Ppu.dotStep_vblank_iff _ _).1 h)

/-- Dots that end no frame count none. -/
theorem State.ppuDots_framesDone {s : State} {n : Nat} (h : ∀ j < n, ¬ (State.ppuDots j s).ppu.EndsFrame) :
    (State.ppuDots n s).framesDone = s.framesDone := by
  induction n with
  | zero => rfl
  | succ n ih =>
    rw [State.ppuDots_succ, State.ppuDot_framesDone_of_not (h n (Nat.lt_succ_self n)),
      ih fun j hj => h j (Nat.lt_succ_of_lt hj)]

/-- Dots that fit into a line stay in it. -/
theorem State.ppuDots_within {s : State} (hon : s.ppu.lcdOn = true) {n : Nat} (h : s.ppu.dot + n < 456) :
    (State.ppuDots n s).ppu.lcdOn = true ∧ (State.ppuDots n s).ppu.ly = s.ppu.ly ∧
      (State.ppuDots n s).ppu.dot = s.ppu.dot + n := by
  induction n with
  | zero => exact ⟨hon, rfl, rfl⟩
  | succ n ih =>
    obtain ⟨hon', hly, hdot⟩ := ih (by omega)
    have hstep := Ppu.dotStep_within (State.ppuDots n s).video hon' (by omega)
    rw [State.ppuDots_succ]
    exact ⟨(Ppu.dotStep_lcdOn _ _).trans hon', hstep.1.trans hly, hstep.2.trans (congrArg (· + 1) hdot)⟩

/-- After a dot that ends a frame the next line of dots ends none. -/
theorem State.not_endsFrame_after {s : State} (h : s.ppu.EndsFrame) {n : Nat} (hn : n < 456) :
    ¬ (State.ppuDots n s.ppuDot).ppu.EndsFrame := by
  have hplace : s.ppuDot.ppu.place = _ := h.dotStep_place s.video
  have hly : s.ppuDot.ppu.ly = 144 := congrArg PpuPlace.ly hplace
  have hdot : s.ppuDot.ppu.dot = 0 := congrArg PpuPlace.dot hplace
  have hon : s.ppuDot.ppu.lcdOn = true := (Ppu.dotStep_lcdOn _ _).trans h.1
  obtain ⟨-, hly', -⟩ := State.ppuDots_within hon (n := n) (by omega)
  intro ⟨_, h143, _⟩
  exact absurd (h143.symm.trans (hly'.trans hly)) (by decide)

/-- At most a line of dots, one of which ends a frame, counts one. -/
theorem State.ppuDots_framesDone_of_endsFrame {s : State} {k n : Nat} (hk : k < n) (hn : n ≤ 456)
    (h : (State.ppuDots k s).ppu.EndsFrame) : (State.ppuDots n s).framesDone = s.framesDone + 1 := by
  have hbefore : ∀ j < k, ¬ (State.ppuDots j s).ppu.EndsFrame := fun j hj hend => by
    obtain ⟨m, rfl⟩ := Nat.exists_eq_add_of_lt hj
    rw [Nat.add_assoc, State.ppuDots_add] at h
    exact State.not_endsFrame_after hend (n := m) (by omega) h
  obtain ⟨m, rfl⟩ := Nat.exists_eq_add_of_lt hk
  rw [Nat.add_assoc, State.ppuDots_add]
  calc (State.ppuDots m (State.ppuDots k s).ppuDot).framesDone
      = (State.ppuDots k s).ppuDot.framesDone :=
        State.ppuDots_framesDone fun j hj => State.not_endsFrame_after h (by omega)
    _ = (State.ppuDots k s).framesDone + 1 := State.ppuDot_framesDone_of_endsFrame h
    _ = s.framesDone + 1 := congrArg (· + 1) (State.ppuDots_framesDone hbefore)

end Sys2Proof.Machine
end

section
/-! PROOFS. Requests and their settling (60_exceptions.md R344, R345): the units of an M-cycle only add requests, and at its
end all of them are in IF. -/

namespace Sys2Proof.Machine

/-! ## Requesting -/

theorem Irq.requestIf_flags (q : Irq) (b : Bool) (i : Nat) : (q.requestIf b i).flags = q.flags := by
  cases b <;> rfl

theorem Irq.getLsbD_requestIf (q : Irq) (b : Bool) (i j : Nat) :
    (q.requestIf b i).req.getLsbD j = (q.req.getLsbD j || (b && (irqBit i).getLsbD j)) := by
  cases b with
  | false => exact (Bool.or_false _).symm
  | true => exact BitVec.getLsbD_or

theorem getLsbD_irqBit_of_lt {i : Nat} (hi : i < 5) (j : Nat) : (irqBit i).getLsbD j = decide (j = i) := by
  rw [getLsbD_irqBit]
  by_cases h : j = i
  · simp [h, hi]
  · simp [h, Ne.symm h]

/-- A request made is in the set of requests. -/
theorem Irq.getLsbD_requestIf_self (q : Irq) {b : Bool} (hb : b = true) {i : Nat} (hi : i < 5) :
    (q.requestIf b i).req.getLsbD i = true := by
  rw [Irq.getLsbD_requestIf, hb, getLsbD_irqBit_of_lt hi, decide_eq_true rfl]
  exact Bool.or_true _

/-- What the interrupt controller does between two settlings: IF stays, and no request is lost. -/
structure Irq.Grows (q r : Irq) : Prop where
  flags : r.flags = q.flags
  req : ∀ i, q.req.getLsbD i = true → r.req.getLsbD i = true

theorem Irq.Grows.refl (q : Irq) : q.Grows q := ⟨rfl, fun _ => id⟩

theorem Irq.Grows.trans {q r t : Irq} (h : q.Grows r) (h' : r.Grows t) : q.Grows t :=
  ⟨h'.flags.trans h.flags, fun i => h'.req i ∘ h.req i⟩

theorem Irq.requestIf_grows (q : Irq) (b : Bool) (i : Nat) : q.Grows (q.requestIf b i) :=
  ⟨q.requestIf_flags b i, fun j hj => by rw [Irq.getLsbD_requestIf, hj, Bool.true_or]⟩

/-! ## The units of an M-cycle (R110) -/

theorem State.ppuDot_grows (s : State) : s.irq.Grows s.ppuDot.irq :=
  (Irq.requestIf_grows _ _ _).trans (Irq.requestIf_grows _ _ _)

theorem State.ppuDots_grows (n : Nat) (s : State) : s.irq.Grows (State.ppuDots n s).irq := by
  induction n generalizing s with
  | zero => exact .refl _
  | succ n ih => exact s.ppuDot_grows.trans (ih s.ppuDot)

/-- Sub-steps 2 to 6: everything before the settling. -/
def State.units (s : State) : State := s.oamDmaStep.timerStep.ppuStep.serialStep.joypadStep

theorem State.deviceTick_eq_settle (s : State) : s.deviceTick = s.units.settle := rfl

/-- What the joypad and the serial port see is what they were before the other units ran. -/
theorem State.ppuDots_inputs (n : Nat) (s : State) :
    (State.ppuDots n s).joypad = s.joypad ∧ (State.ppuDots n s).buttons = s.buttons ∧
      (State.ppuDots n s).serial = s.serial :=
  ⟨State.ppuDots_keeps State.joypad (fun _ => rfl) n s, State.ppuDots_keeps State.buttons (fun _ => rfl) n s,
    State.ppuDots_keeps State.serial (fun _ => rfl) n s⟩

theorem State.ppuStep_grows_units (s : State) : s.oamDmaStep.timerStep.ppuStep.irq.Grows s.units.irq :=
  (Irq.requestIf_grows _ _ _).trans (Irq.requestIf_grows _ _ _)

/-- What was requested by any dot of the M-cycle is requested when the units are through. -/
theorem State.ppuDots_grows_units {s : State} {k : Nat} (hk : k ≤ Config.dotsPerMcycle s.doubleSpeed) :
    (State.ppuDots k s.oamDmaStep.timerStep).irq.Grows s.units.irq := by
  obtain ⟨m, hm⟩ := Nat.exists_eq_add_of_le hk
  have hdots : s.oamDmaStep.timerStep.ppuStep = State.ppuDots m (State.ppuDots k s.oamDmaStep.timerStep) := by
    rw [← State.ppuDots_add, ← hm]; rfl
  exact (State.ppuDots_grows m _).trans (hdots ▸ s.ppuStep_grows_units)

theorem State.irq_grows_units (s : State) : s.irq.Grows s.units.irq :=
  (Irq.requestIf_grows _ _ _).trans (State.ppuDots_grows_units (Nat.zero_le _))

/-! ## The settling (R345) -/

theorem Irq.getLsbD_settle (q : Irq) (i : Nat) :
    q.settle.flags.getLsbD i = true ↔ q.flags.getLsbD i = true ∨ q.req.getLsbD i = true := by
  rw [Irq.settle, BitVec.getLsbD_or, Bool.or_eq_true]

/-- What is in IF or requested at some point of an M-cycle is in IF at its end. -/
theorem State.deviceTick_flags_of_grows {s : State} {q : Irq} (h : q.Grows s.units.irq) {i : Nat}
    (hi : q.flags.getLsbD i = true ∨ q.req.getLsbD i = true) : s.deviceTick.irq.flags.getLsbD i = true := by
  refine (Irq.getLsbD_settle s.units.irq i).2 (hi.imp (fun hf => ?_) (h.req i))
  rw [h.flags]; exact hf

/-! ## The units' own requests -/

theorem State.deviceTick_timer {s : State} (h : s.timer.reloadPending = true) :
    s.deviceTick.irq.flags.getLsbD 2 = true :=
  State.deviceTick_flags_of_grows (State.ppuDots_grows_units (Nat.zero_le _))
    (.inr (Irq.getLsbD_requestIf_self s.irq h (by decide)))

theorem State.deviceTick_serial {s : State} (h : s.serial.armed = true) : s.deviceTick.irq.flags.getLsbD 3 = true := by
  have harmed : s.oamDmaStep.timerStep.ppuStep.serial.armed = true :=
    (congrArg Serial.armed (State.ppuDots_inputs _ _).2.2).trans h
  exact State.deviceTick_flags_of_grows (Irq.requestIf_grows _ _ _)
    (.inr (Irq.getLsbD_requestIf_self _ harmed (by decide)))

theorem State.deviceTick_joypad {s : State} (h : s.joypad.fell s.buttons = true) :
    s.deviceTick.irq.flags.getLsbD 4 = true := by
  obtain ⟨hjoypad, hbuttons, -⟩ := State.ppuDots_inputs (Config.dotsPerMcycle s.doubleSpeed) s.oamDmaStep.timerStep
  have hfell : s.oamDmaStep.timerStep.ppuStep.serialStep.joypad.fell
      s.oamDmaStep.timerStep.ppuStep.serialStep.buttons = true :=
    Eq.trans (congr (congrArg Joypad.fell hjoypad) hbuttons) h
  exact State.deviceTick_flags_of_grows (.refl _) (.inr (Irq.getLsbD_requestIf_self _ hfell (by decide)))

/-- The requests after a dot: those before it, VBlank when it ends a frame, LcdStat when the line rises (R491, R495). -/
theorem State.getLsbD_ppuDot_req (s : State) (i : Nat) :
    s.ppuDot.irq.req.getLsbD i = true ↔ s.irq.req.getLsbD i = true ∨ s.ppu.EndsFrame ∧ i = 0 ∨
      (s.ppu.statLine = false ∧ s.ppuDot.ppu.statLine = true) ∧ i = 1 := by
  have hstat : (s.ppu.dotStep s.video).stat = true ↔ s.ppu.statLine = false ∧ s.ppuDot.ppu.statLine = true :=
    Ppu.dotStep_stat_iff s.video s.ppu
  have hreq : s.ppuDot.irq.req.getLsbD i = (s.irq.req.getLsbD i || ((s.ppu.dotStep s.video).vblank &&
      (irqBit 0).getLsbD i) || ((s.ppu.dotStep s.video).stat && (irqBit 1).getLsbD i)) :=
    (Irq.getLsbD_requestIf _ _ _ _).trans (congrArg (· || _) (Irq.getLsbD_requestIf _ _ _ _))
  rw [hreq, ← hstat, ← Ppu.dotStep_vblank_iff s.video, getLsbD_irqBit_of_lt (by decide), getLsbD_irqBit_of_lt (by decide)]
  simp only [Bool.or_eq_true, Bool.and_eq_true, decide_eq_true_eq, or_assoc]

/-- The dot of an M-cycle that ends a frame: VBlank is in IF at the M-cycle's end, and one frame is counted (R487). -/
theorem State.deviceTick_vblank {s : State} {k : Nat} (hk : k < Config.dotsPerMcycle s.doubleSpeed)
    (h : (State.ppuDots k s.oamDmaStep.timerStep).ppu.EndsFrame) :
    s.deviceTick.irq.flags.getLsbD 0 = true ∧ s.deviceTick.framesDone = s.framesDone + 1 := by
  have hreq := (State.getLsbD_ppuDot_req _ 0).2 (.inr (.inl ⟨h, rfl⟩))
  rw [← State.ppuDots_succ] at hreq
  have hfew : Config.dotsPerMcycle s.doubleSpeed ≤ 456 := by unfold Config.dotsPerMcycle; split <;> decide
  exact ⟨State.deviceTick_flags_of_grows (State.ppuDots_grows_units hk) (.inr hreq),
    State.ppuDots_framesDone_of_endsFrame hk hfew h⟩

/-- The dot of an M-cycle on which the STAT line rises: LcdStat is in IF at the M-cycle's end (R491). -/
theorem State.deviceTick_lcdStat {s : State} {k : Nat} (hk : k < Config.dotsPerMcycle s.doubleSpeed)
    (hlow : (State.ppuDots k s.oamDmaStep.timerStep).ppu.statLine = false)
    (hhigh : (State.ppuDots (k + 1) s.oamDmaStep.timerStep).ppu.statLine = true) :
    s.deviceTick.irq.flags.getLsbD 1 = true := by
  rw [State.ppuDots_succ] at hhigh
  have hreq := (State.getLsbD_ppuDot_req _ 1).2 (.inr (.inr ⟨⟨hlow, hhigh⟩, rfl⟩))
  rw [← State.ppuDots_succ] at hreq
  exact State.deviceTick_flags_of_grows (State.ppuDots_grows_units hk) (.inr hreq)

/-- Settles O28: the requests of each unit, and of each dot, are among those that the settling merges into IF. -/
theorem requestsSettle : Obligations.RequestsSettle := by
  constructor
  · intro s units
    refine ⟨s.deviceTick_req, congrArg Untouched.ie s.deviceTick_untouched,
      fun i _ => State.deviceTick_flags_of_grows s.irq_grows_units, State.deviceTick_timer,
      fun hstart hinternal => State.deviceTick_serial ?_, fun hfell => State.deviceTick_joypad (decide_eq_true hfell),
      fun k hk hon hly hdot => State.deviceTick_vblank hk ⟨hon, hly, hdot⟩,
      fun k hk hlow hhigh => State.deviceTick_lcdStat hk hlow hhigh⟩
    rw [Serial.armed, hstart, hinternal]; rfl
  · intro u t frame
    have hreq (i : Nat) := u.getLsbD_ppuDot_req i
    have hframe : u.ppu.EndsFrame ↔ frame := Iff.rfl
    refine ⟨fun h => ?_, State.ppuDot_framesDone_of_not, ?_, ?_, fun i hi => ?_, u.ppuDot_grows.flags,
      congrArg Untouched.ie u.untouched_ppuDot⟩
    · have hplace : t.ppu.place = _ := Ppu.EndsFrame.dotStep_place h u.video
      exact ⟨congrArg PpuPlace.ly hplace, congrArg PpuPlace.mode hplace, State.ppuDot_framesDone_of_endsFrame h⟩
    · simpa [hframe] using hreq 0
    · simpa using hreq 1
    · have h0 : i ≠ 0 := by omega
      have h1 : i ≠ 1 := by omega
      rw [Bool.eq_iff_iff]
      simpa [h0, h1] using hreq i

end Sys2Proof.Machine
end

section
/-! PROOFS. The timer (61_timer.md R390 to R398): one M-cycle of it, its rates, and its four registers. -/

namespace Sys2Proof.Machine

/-! ## The fields of TAC, and the counter bit it selects (R51, R391) -/

theorem timerBit_eq (tac : BitVec 3) :
    timerBit tac = if tac.extractLsb' 0 2 = (0 : BitVec 2) then 9 else if tac.extractLsb' 0 2 = (1 : BitVec 2) then 3
      else if tac.extractLsb' 0 2 = (2 : BitVec 2) then 5 else 7 := by
  revert tac; decide

theorem two_le_timerBit (tac : BitVec 3) : 2 ≤ timerBit tac := by
  revert tac; decide

theorem timerBit_lt (tac : BitVec 3) : timerBit tac < 16 := by
  revert tac; decide

/-- The master clocks between two falling edges of the selected bit: twice its weight (R51). -/
def timerClocks (tac : BitVec 3) : Nat := 2 ^ (timerBit tac + 1)

theorem timerClocks_pos (tac : BitVec 3) : 0 < timerClocks tac := Nat.two_pow_pos _

theorem four_lt_timerClocks (tac : BitVec 3) : 4 < timerClocks tac := by
  revert tac; decide

/-- They are the M-cycles of R398, four clocks each. -/
theorem timerClocks_eq (tac : BitVec 3) :
    timerClocks tac = 4 * if tac.extractLsb' 0 2 = (0 : BitVec 2) then 256 else if tac.extractLsb' 0 2 = (1 : BitVec 2)
      then 4 else if tac.extractLsb' 0 2 = (2 : BitVec 2) then 16 else 64 := by
  revert tac; decide

/-! ## The increment, the edge and the reload (R391, R392) -/

/-- At 0xFF the increment is to 0 too, so TIMA always goes up by one modulo 256. -/
theorem Timer.increment_tima (t : Timer) : t.increment.tima = t.tima + 1 := by
  unfold Timer.increment; split
  next h => rw [h]; rfl
  next => rfl

theorem Timer.increment_reloadPending (t : Timer) :
    t.increment.reloadPending = (t.reloadPending || decide (t.tima = 0xFF)) := by
  unfold Timer.increment; split
  next h => rw [decide_eq_true h, Bool.or_true]
  next h => rw [decide_eq_false h, Bool.or_false]

theorem Timer.reload_tima (t : Timer) : t.reload.tima = if t.reloadPending then t.tma else t.tima := by
  unfold Timer.reload; split <;> rfl

theorem Timer.reload_reloadPending (t : Timer) : t.reload.reloadPending = false := by
  unfold Timer.reload; split
  next => rfl
  next h => exact Bool.eq_false_iff.2 h

theorem Timer.reload_counter (t : Timer) : t.reload.counter = t.counter := by
  unfold Timer.reload; split <;> rfl

theorem Timer.reload_tac (t : Timer) : t.reload.tac = t.tac := by
  unfold Timer.reload; split <;> rfl

/-! ## One M-cycle -/

/-- The monitored signal falls in the M-cycle (R391). -/
def Timer.falls (t : Timer) : Bool :=
  t.tac.getLsbD 2 && t.counter.getLsbD (timerBit t.tac) && !(t.counter + 4).getLsbD (timerBit t.tac)

theorem Timer.reload_falls (t : Timer) : t.reload.falls = t.falls := by
  simp only [Timer.falls, Timer.reload_counter, Timer.reload_tac]

theorem Timer.advance_eq (t : Timer) :
    t.advance =
      if t.falls then { t with counter := t.counter + 4 }.increment else { t with counter := t.counter + 4 } := by
  have hedge : (t.signal && !({ t with counter := t.counter + 4 } : Timer).signal) = t.falls := by
    unfold Timer.signal Timer.falls
    cases t.tac.getLsbD 2 <;> simp
  rw [Timer.advance, Timer.edge, hedge]

theorem Timer.step_counter (t : Timer) : t.step.counter = t.counter + 4 := by
  rw [Timer.step, Timer.advance, Timer.edge_counter, Timer.reload_counter]

theorem Timer.step_tima (t : Timer) : t.step.tima = if t.falls then t.reload.tima + 1 else t.reload.tima := by
  rw [Timer.step, Timer.advance_eq, Timer.reload_falls]
  split
  · exact Timer.increment_tima _
  · rfl

theorem Timer.step_reloadPending (t : Timer) :
    t.step.reloadPending = (t.falls && decide (t.reload.tima = 0xFF)) := by
  rw [Timer.step, Timer.advance_eq, Timer.reload_falls]
  cases t.falls with
  | false => exact t.reload_reloadPending
  | true => exact (Timer.increment_reloadPending _).trans (congrArg (· || _) t.reload_reloadPending)

/-- Settles O40: the fields after an M-cycle, with the selected bit and the reload written out. -/
theorem timerAdvances : Obligations.TimerAdvances := by
  intro s t u bit tima falls
  have hfalls : t.falls = falls := by
    rw [Timer.falls, timerBit_eq]
  have htima : t.reload.tima = tima := t.reload_tima
  refine ⟨t.step_counter, t.step_tma, t.step_tac, ?_, ?_, ?_⟩
  · rw [← hfalls, ← htima]; exact t.step_tima
  · rw [← hfalls, ← htima]; exact t.step_reloadPending
  · rfl

/-! ## The rates (R398) -/

/-- Bit `b` is the upper half of the numbers modulo twice its weight. -/
theorem getLsbD_eq_decide_le_mod (c : Word) (b : Nat) : c.getLsbD b = decide (2 ^ b ≤ c.toNat % 2 ^ (b + 1)) := by
  have hmod : c.getLsbD b = (c.toNat % 2 ^ (b + 1)).testBit b := by
    rw [Nat.testBit_mod_two_pow, decide_eq_true (Nat.lt_succ_self b), Bool.true_and]; rfl
  rw [hmod]
  by_cases h : 2 ^ b ≤ c.toNat % 2 ^ (b + 1)
  · rw [decide_eq_true h, Nat.testBit_of_two_pow_le_and_two_pow_add_one_gt h (Nat.mod_lt _ (Nat.two_pow_pos _))]
  · rw [decide_eq_false h, Nat.testBit_lt_two_pow (Nat.not_le.1 h)]

theorem toNat_add_four_mod (c : Word) {b : Nat} (hb : b < 16) :
    (c + 4).toNat % 2 ^ (b + 1) = (c.toNat % 2 ^ (b + 1) + 4) % 2 ^ (b + 1) := by
  rw [BitVec.toNat_add, Nat.mod_mod_of_dvd _ (Nat.pow_dvd_pow 2 hb), Nat.mod_add_mod]; rfl

/-- A bit of weight four or more falls when four are added exactly if that carries out of it. -/
theorem bit_falls_iff_carry (c : Word) {b : Nat} (h2 : 2 ≤ b) (hb : b < 16) :
    c.getLsbD b = true ∧ (c + 4).getLsbD b = false ↔ 2 ^ (b + 1) ≤ c.toNat % 2 ^ (b + 1) + 4 := by
  have hweight : 2 ^ 2 ≤ 2 ^ b := Nat.pow_le_pow_right (by decide) h2
  have hperiod : 2 ^ (b + 1) = 2 * 2 ^ b := Nat.pow_succ'
  have hlt : c.toNat % 2 ^ (b + 1) < 2 ^ (b + 1) := Nat.mod_lt _ (Nat.two_pow_pos _)
  rw [getLsbD_eq_decide_le_mod, getLsbD_eq_decide_le_mod, toNat_add_four_mod c hb, decide_eq_true_eq,
    decide_eq_false_iff_not]
  generalize c.toNat % 2 ^ (b + 1) = r at hlt
  by_cases hcarry : 2 ^ (b + 1) ≤ r + 4
  · rw [Nat.mod_eq_sub_mod hcarry, Nat.mod_eq_of_lt (by omega)]; omega
  · rw [Nat.mod_eq_of_lt (Nat.not_le.1 hcarry)]; omega

/-- The signal of an enabled timer falls exactly when the counter enters the next of the selected bit's periods. -/
theorem Timer.falls_iff {t : Timer} (hon : t.tac.getLsbD 2 = true) :
    t.falls = true ↔ timerClocks t.tac ≤ t.counter.toNat % timerClocks t.tac + 4 := by
  rw [timerClocks, ← bit_falls_iff_carry _ (two_le_timerBit _) (timerBit_lt _), Timer.falls, hon, Bool.true_and,
    Bool.and_eq_true, Bool.not_eq_true']

/-- With no reload waiting and no overflow, TIMA counts the fall of this M-cycle as a number. -/
theorem Timer.step_of_no_overflow {t : Timer} (hpending : t.reloadPending = false)
    (hfits : t.falls = true → t.tima ≠ 0xFF) :
    t.step.reloadPending = false ∧ t.step.tima.toNat = t.tima.toNat + t.falls.toNat := by
  have hreload : t.reload = t := if_neg (Bool.eq_false_iff.1 hpending)
  rw [Timer.step_reloadPending, Timer.step_tima, hreload]
  cases h : t.falls with
  | false => exact ⟨rfl, rfl⟩
  | true =>
    have hne := hfits h
    exact ⟨decide_eq_false hne, show (t.tima + 1).toNat = t.tima.toNat + 1 by bv_omega⟩

/-- `r` is `t` after `n` M-cycles without an overflow: TIMA has counted the periods that the unwrapped counter
entered. -/
structure Timer.Ran (t : Timer) (n : Nat) (r : Timer) : Prop where
  tac : r.tac = t.tac
  reloadPending : r.reloadPending = false
  counter : r.counter.toNat % timerClocks t.tac = (t.counter.toNat + 4 * n) % timerClocks t.tac
  tima : r.tima.toNat + t.counter.toNat / timerClocks t.tac =
    t.tima.toNat + (t.counter.toNat + 4 * n) / timerClocks t.tac

theorem Timer.Ran.refl {t : Timer} (hpending : t.reloadPending = false) : t.Ran 0 t := ⟨rfl, hpending, rfl, rfl⟩

/-- One more M-cycle, as long as the count stays below 256. -/
theorem Timer.Ran.step {t r : Timer} {n : Nat} (hr : t.Ran n r) (hon : t.tac.getLsbD 2 = true)
    (hfits : t.tima.toNat + (t.counter.toNat + 4 * (n + 1)) / timerClocks t.tac <
      256 + t.counter.toNat / timerClocks t.tac) : t.Ran (n + 1) r.step := by
  obtain ⟨htac, hpending, hcounter, htima⟩ := hr
  have hfalls : r.falls = true ↔ timerClocks t.tac ≤ (t.counter.toNat + 4 * n) % timerClocks t.tac + 4 := by
    rw [Timer.falls_iff (htac ▸ hon), htac, hcounter]
  have hentered : (t.counter.toNat + 4 * (n + 1)) / timerClocks t.tac =
      (t.counter.toNat + 4 * n) / timerClocks t.tac + r.falls.toNat := by
    have hfour := four_lt_timerClocks t.tac
    rw [Nat.mul_succ, ← Nat.add_assoc, Nat.add_div (timerClocks_pos t.tac), Nat.div_eq_of_lt hfour,
      Nat.mod_eq_of_lt hfour, Nat.add_zero]
    split
    next hcarry => rw [hfalls.2 hcarry]; rfl
    next hcarry => rw [Bool.eq_false_iff.2 (mt hfalls.1 hcarry)]; rfl
  obtain ⟨hpending', htima'⟩ := r.step_of_no_overflow hpending fun h h255 => by
    rw [h, Bool.toNat_true] at hentered
    have : r.tima.toNat = 255 := congrArg BitVec.toNat h255
    omega
  refine ⟨r.step_tac.trans htac, hpending', ?_, by omega⟩
  rw [Timer.step_counter, timerClocks, toNat_add_four_mod _ (timerBit_lt _), ← timerClocks, hcounter, Nat.mod_add_mod,
    Nat.add_assoc, Nat.mul_succ]

/-- The M-cycles up to one whose count stays below 256. -/
theorem Timer.ran_repeat {t : Timer} (hon : t.tac.getLsbD 2 = true) (hpending : t.reloadPending = false) {n : Nat}
    (hfits : t.tima.toNat + (t.counter.toNat + 4 * n) / timerClocks t.tac <
      256 + t.counter.toNat / timerClocks t.tac) : t.Ran n (Nat.repeat Timer.step n t) := by
  induction n with
  | zero => exact .refl hpending
  | succ n ih =>
    have hmono : (t.counter.toNat + 4 * n) / timerClocks t.tac ≤
        (t.counter.toNat + 4 * (n + 1)) / timerClocks t.tac :=
      Nat.div_le_div_right (by omega)
    exact (ih (by omega)).step hon hfits

/-- Settles O42: `k` periods' M-cycles enter `k` periods, wherever the counter stood. -/
theorem timerRate : Obligations.TimerRate := by
  intro t k hon hpending hfits period
  have hclocks : timerClocks t.tac = 4 * period := timerClocks_eq t.tac
  have hentered : (t.counter.toNat + 4 * (k * period)) / timerClocks t.tac =
      t.counter.toNat / timerClocks t.tac + k := by
    rw [Nat.mul_left_comm, ← hclocks, Nat.add_mul_div_right _ _ (timerClocks_pos t.tac)]
  have htima := (Timer.ran_repeat (n := k * period) hon hpending (by omega)).tima
  omega

/-! ## The registers (R393 to R397) -/

theorem Timer.readTac_eq (t : Timer) : t.readTac = (0b11111 : BitVec 5) ++ t.tac := by
  unfold Timer.readTac; generalize t.tac = tac; revert tac; decide

/-- With the counter at 0 no bit of it is set, so the signal is low after a write to DIV. -/
theorem Timer.writeDiv_eq (t : Timer) :
    t.writeDiv = if t.signal then { t with counter := 0 }.increment else { t with counter := 0 } := by
  have hlow : ({ t with counter := 0 } : Timer).signal = false :=
    congrArg (· && t.tac.getLsbD 2) BitVec.getLsbD_zero
  rw [Timer.writeDiv, Timer.edge, hlow, Bool.not_false, Bool.and_true]

/-- Settles O41: each register's two accesses by its number in the I/O page. -/
theorem timerRegisters : Obligations.TimerRegisters := by
  intro s v t signal bump noDiv newTac
  obtain ⟨hreadDiv, hwriteDiv⟩ := State.raw_of_io (s := s) (a := 0xFF04) (v := v) 0x04 rfl rfl rfl
  obtain ⟨hreadTima, hwriteTima⟩ := State.raw_of_io (s := s) (a := 0xFF05) (v := v) 0x05 rfl rfl rfl
  obtain ⟨hreadTma, hwriteTma⟩ := State.raw_of_io (s := s) (a := 0xFF06) (v := v) 0x06 rfl rfl rfl
  obtain ⟨hreadTac, hwriteTac⟩ := State.raw_of_io (s := s) (a := 0xFF07) (v := v) 0x07 rfl rfl rfl
  have hdiv : t.writeDiv = if signal t then bump noDiv else noDiv := t.writeDiv_eq
  have htac : t.writeTac v = if signal t && !signal newTac then bump newTac else newTac := rfl
  exact ⟨hreadDiv, hreadTima, hreadTma, hreadTac.trans t.readTac_eq, hdiv ▸ hwriteDiv, hwriteTima, hwriteTma,
    htac ▸ hwriteTac⟩

end Sys2Proof.Machine
end

section
/-! PROOFS. The joypad and the serial port (62_joypad_serial.md R410 to R423): what their registers give and take, and what
an M-cycle does to them. -/

namespace Sys2Proof.Machine

/-! ## The joypad (R412 to R414) -/

/-- A line that is not selected puts out ones (R412). -/
theorem getLsbD_lineOf (off : Bool) (n : BitVec 4) {i : Nat} (hi : i < 4) :
    (if off then 0xF else n).getLsbD i = (off || n.getLsbD i) := by
  cases off with
  | false => rfl
  | true =>
    have hones : ∀ j < 4, (0xF : BitVec 4).getLsbD j = true := by decide
    exact hones i hi

/-- A bit is low exactly while a selected line holds it low (R412). -/
theorem Joypad.getLsbD_nibble_iff (j : Joypad) (b : Buttons) {i : Nat} (hi : i < 4) :
    (j.nibble b).getLsbD i = false ↔
      j.select.getLsbD 0 = false ∧ (lineNibble b.down b.up b.left b.right).getLsbD i = false ∨
      j.select.getLsbD 1 = false ∧ (lineNibble b.start b.select b.b b.a).getLsbD i = false := by
  rw [Joypad.nibble, BitVec.getLsbD_and, getLsbD_lineOf _ _ hi, getLsbD_lineOf _ _ hi, Bool.and_eq_false_iff,
    Bool.or_eq_false_iff, Bool.or_eq_false_iff]

/-- The bits of a line, lowest button first: low while held (R412). -/
theorem getLsbD_lineNibble (b3 b2 b1 b0 : Bool) :
    ((lineNibble b3 b2 b1 b0).getLsbD 0 = false ↔ b0 = true) ∧ ((lineNibble b3 b2 b1 b0).getLsbD 1 = false ↔ b1 = true) ∧
    ((lineNibble b3 b2 b1 b0).getLsbD 2 = false ↔ b2 = true) ∧ ((lineNibble b3 b2 b1 b0).getLsbD 3 = false ↔ b3 = true) := by
  revert b3 b2 b1 b0; decide

theorem Irq.requestIf_decide (q : Irq) (p : Prop) [Decidable p] (i : Nat) :
    q.requestIf (decide p) i = if p then q.request i else q := by
  by_cases h : p
  · rw [decide_eq_true h, if_pos h]; rfl
  · rw [decide_eq_false h, if_neg h]; rfl

/-- Settles O43: the nibble's bits by the lines', the register by its number, the fall as the units' request. -/
theorem joypadBehaves : Obligations.JoypadBehaves := by
  intro s v b directions actions n
  obtain ⟨hright, hleft, hup, hdown⟩ := getLsbD_lineNibble b.down b.up b.left b.right
  obtain ⟨ha, hb, hselect, hstart⟩ := getLsbD_lineNibble b.start b.select b.b b.a
  have bit {i : Nat} (hi : i < 4) := s.joypad.getLsbD_nibble_iff b hi
  obtain ⟨hread, hwrite⟩ := State.raw_of_io (s := s) (a := 0xFF00) (v := v) 0x00 rfl rfl rfl
  refine ⟨?_, ?_, ?_, ?_, hread, hwrite, rfl, s.irq.requestIf_decide _ 4⟩
  · rw [← hright, ← ha]; exact bit (by decide)
  · rw [← hleft, ← hb]; exact bit (by decide)
  · rw [← hup, ← hselect]; exact bit (by decide)
  · rw [← hdown, ← hstart]; exact bit (by decide)

/-! ## The serial port (R421, R422) -/

/-- Settles O44: SC by the model, and the M-cycle by whether a transfer is armed. -/
theorem serialCompletesAtOnce : Obligations.SerialCompletesAtOnce := by
  intro s v
  have ⟨hread, hwrite⟩ : s.rawRead 0xFF02 = s.serial.readSc s.params.model ∧
      s.rawWrite 0xFF02 v = { s with serial := s.serial.writeSc s.params.model v } :=
    State.raw_of_io 0x02 rfl rfl rfl
  refine ⟨fun hm => ?_, fun hm => ?_, fun ⟨hstart, hinternal⟩ => ?_, fun h => ?_⟩
  · rw [hread, hwrite, hm]; exact ⟨rfl, rfl⟩
  · rw [hread, hwrite, hm]; exact ⟨rfl, rfl⟩
  · have harmed : s.serial.armed = true := by rw [Serial.armed, hstart, hinternal]; rfl
    rw [State.serialStep, Serial.step, harmed]; rfl
  · have harmed : s.serial.armed = false := by
      rw [← Bool.not_eq_true, Serial.armed, Bool.and_eq_true]; exact h
    rw [State.serialStep, Serial.step, harmed]; rfl

end Sys2Proof.Machine
end

section
/-! PROOFS. The OAM-DMA engine (63_oam_dma.md R430 to R433): its start two M-cycles after the write to DMA, and the 160
M-cycles of its copy. -/

namespace Sys2Proof.Machine

/-! ## What a device tick does to the engines -/

/-- Only an HBlank-DMA gets blocks from the trigger (R453). -/
theorem VramDma.hblankTrigger_of_not_hblank {d : VramDma} (h : d.mode ≠ .hblank) (p : Params) (b : Bool) :
    d.hblankTrigger p b = d := by
  simp [VramDma.hblankTrigger, h]

theorem State.ppuDot_vdma_of_not_hblank {s : State} (h : s.vdma.mode ≠ .hblank) : s.ppuDot.vdma = s.vdma := by
  show (if _ then _ else _) = _
  rw [VramDma.hblankTrigger_of_not_hblank h, ite_self]

/-- Without an HBlank-DMA under way a tick leaves the VRAM-DMA engine (R453). -/
theorem State.deviceTick_vdma_of_not_hblank {s : State} (h : s.vdma.mode ≠ .hblank) : s.deviceTick.vdma = s.vdma := by
  have dots : ∀ n (t : State), t.vdma.mode ≠ .hblank → (State.ppuDots n t).vdma = t.vdma := by
    intro n
    induction n with
    | zero => exact fun _ _ => rfl
    | succ n ih =>
      intro t ht
      have hdot := State.ppuDot_vdma_of_not_hblank ht
      exact (ih t.ppuDot (hdot ▸ ht)).trans hdot
  exact dots _ s.oamDmaStep.timerStep h

/-- An active OAM-DMA copies the byte at its offset in a tick (R432). -/
theorem State.deviceTick_oam_of_active {s : State} (h : s.oamDma.status = .active) :
    s.deviceTick.oam = s.oam.write s.oamDma.offset (s.rawRead s.oamDma.source) := by
  have : ∀ n (t : State), (State.ppuDots n t).oam = t.oam := State.ppuDots_keeps State.oam fun _ => rfl
  show (State.ppuDots _ s.oamDmaStep.timerStep).oam = _
  rw [this]; exact if_pos h

/-! ## The start (R431) -/

/-- Neither the OAM-DMA engine nor the PPU keeps the CPU from the I/O page (R96). -/
theorem State.cpuWrite_io (s : State) {a : Word} (h : 0xFF00 ≤ a.toNat) (h' : a.toNat < 0xFF80) (v : Byte) :
    s.cpuWrite a v = s.ioWrite (a.toNat - 0xFF00) v := by
  have hfree : ¬ (s.dmaDropsWrite a || s.ppuBlocks a) = true := by
    rw [Bool.or_eq_true, State.dmaDropsWrite_iff, State.ppuBlocks_iff]; omega
  rw [State.cpuWrite, if_neg hfree, s.rawWrite_io v h h']

/-- With no HBlank-DMA under way and no block due, or on `Dmg`, nothing stalls the CPU; and a device tick keeps it so. -/
def State.Unstalled (s : State) : Prop := s.params.model = .dmg ∨ s.vdma.mode ≠ .hblank ∧ s.vdma.stallBlocks = 0

theorem State.Unstalled.stallCheck {s : State} (h : s.Unstalled) : s.stallCheck = s :=
  h.elim State.stallCheck_of_dmg fun h => State.stallCheck_of_zero h.2

theorem State.Unstalled.deviceTick {s : State} (h : s.Unstalled) : s.deviceTick.Unstalled := by
  rcases h with hm | ⟨hmode, hstall⟩
  · exact .inl ((congrArg Params.model s.deviceTick_params).trans hm)
  · rw [State.Unstalled, State.deviceTick_vdma_of_not_hblank hmode]; exact .inr ⟨hmode, hstall⟩

/-- A requested transfer becomes active in the M-cycle after the one of the write (R432). -/
theorem OamDma.step_of_requested {d : OamDma} (h : d.status = .requested) (hw : d.writtenThisCycle = false) :
    d.step = { d with status := .active, offset := 0 } := by
  rw [OamDma.step, h, hw]; rfl

/-- Settles O45: the tick of the write leaves the request alone, the next one starts it, and neither finds it active. -/
theorem oamDmaStarts : Obligations.OamDmaStarts := by
  intro s v h t
  replace h : s.Unstalled := h
  have ht : t = ((s.ioWrite 0x46 v).log (.write 0xFF46 v)).deviceTick := by
    show s.memWrite 0xFF46 v = _
    rw [State.memWrite, h.stallCheck, s.cpuWrite_io (by decide) (by decide)]; rfl
  have hrun : t.Unstalled := by
    rw [ht]; exact State.Unstalled.deviceTick (s := (s.ioWrite 0x46 v).log _) h
  have hdma : t.oamDma = { s.oamDma.write v with writtenThisCycle := false } := by
    rw [ht, State.deviceTick_oamDma]; rfl
  have hoam : t.oam = s.oam := by
    rw [ht]; exact State.deviceTick_oam (s := (s.ioWrite 0x46 v).log _) (by nofun)
  have hidle : t.idle = (t.log .idle).deviceTick := by rw [State.idle, hrun.stallCheck]
  have hrequested : t.oamDma.status = .requested := by rw [hdma]; rfl
  have hstarted : t.idle.oamDma = { t.oamDma with status := .active, offset := 0, writtenThisCycle := false } := by
    rw [hidle, State.deviceTick_oamDma, State.log_oamDma, OamDma.step_of_requested hrequested (by rw [hdma])]
  refine ⟨hrequested, by rw [hdma]; rfl, hoam, by rw [hstarted], by rw [hstarted], ?_⟩
  rw [hidle, State.deviceTick_oam (s := t.log .idle) (by rw [State.log_oamDma, hrequested]; nofun)]
  exact hoam

/-! ## The copy (R432, R433) -/

/-- Work RAM reads as before when nothing but `vram`, `oam` and the units has changed. -/
theorem State.rawRead_wram_of_outer {s t : State} (h : t.outer = s.outer) {a : Word} (ha : 0xC000 ≤ a.toNat)
    (ha' : a.toNat < 0xE000) : t.rawRead a = s.rawRead a := by
  have hs := State.target_wram (s := s) ha ha'
  rw [State.rawRead_of ((State.target_of_outer h a).trans hs), State.rawRead_of hs]
  exact congrArg (fun o : Untouched => o.wram.read (s.wramKey (a.toNat - 0xC000))) h

/-- Pages C0 and above, redirected or not, are pages of work RAM (R433). -/
theorem OamDma.sourcePage_wram {d : OamDma} (h : 0xC0 ≤ d.page.toNat) :
    0xC0 ≤ d.sourcePage.toNat ∧ d.sourcePage.toNat < 0xE0 := by
  have hlt := d.page.isLt
  unfold OamDma.sourcePage
  split
  · bv_omega
  · omega

/-- `t` is where a transfer that began in `s` stands after `k` M-cycles (R432). -/
structure State.OamCopied (s : State) (k : Nat) (t : State) : Prop where
  outer : t.outer = s.outer
  status : t.oamDma.status = if k = 160 then .idle else .active
  offset : t.oamDma.offset = k
  wf : t.oam.wf = true
  bytes : ∀ i < k, t.oam.read i = s.rawRead (wordOf s.oamDma.sourcePage (BitVec.ofNat 8 i))

/-- One more M-cycle copies the next byte. -/
theorem State.OamCopied.tick {s t : State} {k : Nat} (h : s.OamCopied k t) (hpage : 0xC0 ≤ s.oamDma.page.toNat)
    (hk : k < 160) : s.OamCopied (k + 1) t.deviceTick := by
  have hactive : t.oamDma.status = .active := h.status.trans (if_neg (Nat.ne_of_lt hk))
  have hdma : t.deviceTick.oamDma = { t.oamDma.step with writtenThisCycle := false } := t.deviceTick_oamDma
  have hstep : t.oamDma.step = { t.oamDma with offset := k + 1, status := if k + 1 = 160 then .idle else .active } := by
    rw [OamDma.step, hactive, h.offset]
  have hsource : t.oamDma.source = wordOf s.oamDma.sourcePage (BitVec.ofNat 8 k) := by
    have hsame : t.oamDma.page = s.oamDma.page := congrArg Untouched.page h.outer
    rw [OamDma.source, h.offset, OamDma.sourcePage, hsame, ← OamDma.sourcePage]
  have hbyte : t.rawRead t.oamDma.source = s.rawRead (wordOf s.oamDma.sourcePage (BitVec.ofNat 8 k)) := by
    obtain ⟨hlo, hhi⟩ := OamDma.sourcePage_wram hpage
    have hoff := (BitVec.ofNat 8 k).isLt
    rw [hsource]
    exact State.rawRead_wram_of_outer h.outer (by rw [toNat_wordOf]; omega) (by rw [toNat_wordOf]; omega)
  have hoam := State.deviceTick_oam_of_active hactive
  rw [h.offset, hbyte] at hoam
  refine
    { outer := t.deviceTick_outer.trans h.outer
      status := by rw [hdma, hstep]
      offset := by rw [hdma, hstep]
      wf := by rw [hoam]; exact Memory.wf_write h.wf _ _
      bytes := fun i hi => ?_ }
  rw [hoam, Memory.read_write h.wf]
  split
  next hik => rw [hik]
  next hik => exact h.bytes i (by omega)

theorem State.oamCopied_repeat {s : State} (hwf : s.oam.wf = true) (hactive : s.oamDma.status = .active)
    (hoffset : s.oamDma.offset = 0) (hpage : 0xC0 ≤ s.oamDma.page.toNat) {k : Nat} (hk : k ≤ 160) :
    s.OamCopied k (Nat.repeat State.deviceTick k s) := by
  induction k with
  | zero => exact ⟨rfl, hactive, hoffset, hwf, nofun⟩
  | succ k ih => exact (ih (by omega)).tick hpage hk

/-- Settles O46: the transfer stands at offset `k` after `k` M-cycles, the bytes below it copied. -/
theorem oamDmaCopies : Obligations.OamDmaCopies := by
  intro s hwf hactive hoffset hpage page t
  have copied {k : Nat} (hk : k ≤ 160) := State.oamCopied_repeat hwf hactive hoffset hpage hk
  have h := copied (Nat.le_refl 160)
  refine ⟨h.status, h.wf, h.bytes, fun k hk => ?_⟩
  have hpart := copied (Nat.le_of_lt hk)
  exact ⟨hpart.status.trans (if_neg (Nat.ne_of_lt hk)), hpart.offset⟩

end Sys2Proof.Machine
end

section
/-! PROOFS. The VRAM-DMA engine (64_vram_dma.md R450 to R468): HDMA5 as a program writes and reads it, the HBlank trigger,
and a whole General-DMA. -/

namespace Sys2Proof.Machine

/-! ## HDMA5 (R452, R458, R468) -/

/-- The subtraction of one is modulo 128 (R458). -/
theorem VramDma.readHdma5_eq (d : VramDma) :
    d.readHdma5 = BitVec.ofNat 8 ((if d.mode = .hblank then 0 else 128) + (d.remaining + 127) % 128) := by
  have hlt := Nat.mod_lt (d.remaining + 127) (by decide : 0 < 128)
  have hbit (b : Bool) (n : Nat) (hn : n < 128) :
      bitOf b ++ BitVec.ofNat 7 n = BitVec.ofNat 8 ((if b then 128 else 0) + n) := by
    revert b; revert n; decide
  have hmod : BitVec.ofNat 7 (d.remaining + 127) = BitVec.ofNat 7 ((d.remaining + 127) % 128) :=
    BitVec.eq_of_toNat_eq (Nat.mod_mod _ _).symm
  rw [VramDma.readHdma5, hmod, hbit _ _ hlt]
  by_cases h : d.mode = .hblank <;> simp [h]

/-- The source is a multiple of 16 (R452). -/
theorem wordOf_and_source (hi lo : Byte) : wordOf hi lo &&& 0xFFF0 = wordOf hi (lo &&& 0xF0) :=
  calc wordOf hi lo &&& wordOf 0xFF 0xF0
      = wordOf (hi &&& 0xFF) (lo &&& 0xF0) := BitVec.and_append
    _ = wordOf hi (lo &&& 0xF0) := congrArg (wordOf · _) BitVec.and_allOnes

/-- The destination is a multiple of 16 in VRAM (R452). -/
theorem or_wordOf_and_destination (hi lo : Byte) :
    0x8000 ||| (wordOf hi lo &&& 0x1FF0) = wordOf (0x80 ||| (hi &&& 0x1F)) (lo &&& 0xF0) :=
  calc wordOf 0x80 0 ||| (wordOf hi lo &&& wordOf 0x1F 0xF0)
      = wordOf 0x80 0 ||| wordOf (hi &&& 0x1F) (lo &&& 0xF0) := congrArg _ BitVec.and_append
    _ = wordOf (0x80 ||| (hi &&& 0x1F)) (0 ||| (lo &&& 0xF0)) := BitVec.or_append
    _ = wordOf (0x80 ||| (hi &&& 0x1F)) (lo &&& 0xF0) := congrArg (wordOf _) BitVec.zero_or

theorem getLsbD_seven (v : Byte) : v.getLsbD 7 = decide (128 ≤ v.toNat) :=
  v.msb_eq_getLsbD_last.symm.trans v.msb_eq_decide

/-- A write to HDMA5 with the registers of the transfer written out: it ends an HBlank-DMA, or starts a transfer of either
kind (R452). -/
theorem VramDma.writeHdma5_eq (d : VramDma) (v : Byte) :
    d.writeHdma5 v =
      if d.mode = .hblank ∧ v.toNat < 128 then { d with mode := .idle }
      else
        let e := { d with
          src := wordOf d.hdma1 (d.hdma2 &&& 0xF0)
          dst := wordOf (0x80 ||| (d.hdma3 &&& 0x1F)) (d.hdma4 &&& 0xF0)
          remaining := v.toNat % 128 + 1 }
        if 128 ≤ v.toNat then { e with mode := .hblank }
        else { e with mode := .general, stallBlocks := v.toNat % 128 + 1 } := by
  have hlow : v.getLsbD 7 = false ↔ v.toNat < 128 := by rw [getLsbD_seven, decide_eq_false_iff_not, Nat.not_le]
  have hhigh : v.getLsbD 7 = true ↔ 128 ≤ v.toNat := by rw [getLsbD_seven, decide_eq_true_iff]
  have hblocks : (v.setWidth 7).toNat = v.toNat % 128 := BitVec.toNat_setWidth 7 v
  simp only [VramDma.writeHdma5, hlow, hhigh, hblocks, wordOf_and_source, or_wordOf_and_destination]

/-- Settles O47: the engine's read and write, which only `Cgb` has. -/
theorem hdma5 : Obligations.Hdma5 := by
  intro s v d src dst blocks
  refine ⟨fun hm => ?_, fun hm => ?_⟩
  · obtain ⟨hread, hwrite⟩ := State.raw_of_io (s := s) (a := 0xFF55) (v := v) 0x55 rfl (State.cgbOnly_of_cgb hm _)
      (State.cgbWrite_of_cgb hm _)
    have hwrite' : s.rawWrite 0xFF55 v = { s with vdma := s.vdma.writeHdma5 v } := hwrite
    rw [VramDma.writeHdma5_eq] at hwrite'
    refine ⟨hread.trans d.readHdma5_eq, fun hmode hv => ?_, fun hmode hv => ?_, fun hv => ?_⟩
    · rw [hwrite', if_pos ⟨hmode, hv⟩]
    · rw [hwrite', if_neg fun h => hmode h.1]
      exact congrArg (fun e => { s with vdma := e }) (if_neg (Nat.not_le.2 hv))
    · rw [hwrite', if_neg fun h => Nat.not_lt.2 hv h.2]
      exact congrArg (fun e => { s with vdma := e }) (if_pos hv)
  · obtain ⟨hread, hwrite⟩ := State.raw_of_dmg hm v (a := 0xFF55) (by decide)
    exact ⟨hread, hwrite, State.stallCheck_of_dmg hm⟩

/-! ## The HBlank trigger (R453) -/

theorem VramDma.hblankTrigger_of_armed {d : VramDma} {p : Params} {halted : Bool}
    (h : p.model = .cgb ∧ d.mode = .hblank ∧ (halted = false ∨ p.hdmaRunsWhileHalted = true)) :
    d.hblankTrigger p halted = { d with stallBlocks := d.stallBlocks + 1 } := by
  refine if_pos ?_
  simpa [Params.isCgb, and_assoc] using h

theorem VramDma.hblankTrigger_of_not_armed {d : VramDma} {p : Params} {halted : Bool}
    (h : ¬ (p.model = .cgb ∧ d.mode = .hblank ∧ (halted = false ∨ p.hdmaRunsWhileHalted = true))) :
    d.hblankTrigger p halted = d := by
  refine if_neg ?_
  simpa [Params.isCgb, and_assoc] using h

/-- The first part of a dot ends mode 3 exactly when it says so (R495, R503). -/
theorem Ppu.dotBody_hblank_iff (v : Video) (p : Ppu) :
    (p.dotBody v).hblank = true ↔ p.mode = .drawing ∧ (p.dotBody v).ppu.mode = .hblank := by
  unfold Ppu.dotBody
  split
  · next hm => exact ⟨nofun, fun h => nomatch hm.symm.trans h.1⟩
  · next hm =>
    have hmode : (p.mode3Dot v).ppu.mode = .drawing :=
      (congrArg PpuPlace.mode (Ppu.mode3Dot_drawsFrom v p).place).trans hm
    dsimp only
    split
    · next hfin => exact ⟨fun _ => ⟨hm, rfl⟩, fun _ => hfin⟩
    · next hfin => exact ⟨fun h => absurd h hfin, fun h => nomatch hmode.symm.trans h.2⟩
  · next hm => exact ⟨nofun, fun h => nomatch hm.symm.trans h.1⟩
  · next hm => exact ⟨nofun, fun h => nomatch hm.symm.trans h.1⟩

/-- Before the end of a line a dot announces HBlank exactly when it leaves mode 3 for mode 0 (R453, R495). -/
theorem Ppu.dotStep_hblank_iff (v : Video) {p : Ppu} (hdot : p.dot + 1 < 456) :
    (p.dotStep v).hblank = true ↔ p.mode = .drawing ∧ (p.dotStep v).ppu.mode = .hblank := by
  by_cases hon : p.lcdOn = true
  · have hlast : (p.dotBody v).ppu.dot ≠ 456 := by rw [(p.dotBody_advances v).dot]; omega
    have hmode : (p.dotBody v).ppu.statUpdate.mode = (p.dotBody v).ppu.mode :=
      congrArg PpuPlace.mode (Ppu.statUpdate_place _)
    rw [Ppu.dotStep_of_on v hon, DotOut.endLine_of_not_last hlast]
    exact (p.dotBody_hblank_iff v).trans (by rw [← hmode]; rfl)
  · rw [Ppu.dotStep_of_off v hon]
    exact ⟨nofun, fun h => nomatch h.1.symm.trans h.2⟩

/-- Settles O49: the trigger runs exactly on that dot, and adds a block exactly when it is armed. -/
theorem hblankTrigger : Obligations.HblankTrigger := by
  intro s hdot t entered armed
  have hentered : (s.ppu.dotStep s.video).hblank = true ↔ entered := Ppu.dotStep_hblank_iff s.video hdot
  have ht : t.vdma = if (s.ppu.dotStep s.video).hblank then s.vdma.hblankTrigger s.params s.cpu.halted else s.vdma := rfl
  rw [ht]
  refine ⟨fun ⟨he, ha⟩ => ?_, fun hne => ?_⟩
  · rw [if_pos (hentered.2 he), VramDma.hblankTrigger_of_armed ha]
  · by_cases he : entered
    · rw [if_pos (hentered.2 he), VramDma.hblankTrigger_of_not_armed fun ha => hne ⟨he, ha⟩]
    · rw [if_neg (mt hentered.1 he)]

end Sys2Proof.Machine
end

section
/-! PROOFS. A whole General-DMA (64_vram_dma.md R464 to R466): the M-cycles it stalls the CPU for, its end, and the bytes
it copies. -/

namespace Sys2Proof.Machine

/-! ## The counters of a transfer -/

/-- `n` blocks of a General-DMA are left, all of them due; with none left the engine is idle (R464, R466). -/
structure VramDma.Left (n : Nat) (d : VramDma) : Prop where
  mode : d.mode = if n = 0 then .idle else .general
  remaining : d.remaining = n
  stallBlocks : d.stallBlocks = n

theorem VramDma.Left.not_hblank {n : Nat} {d : VramDma} (h : d.Left n) : d.mode ≠ .hblank := by
  rw [h.mode]; split <;> nofun

/-- A byte copied moves the addresses only. -/
theorem VramDma.Left.copyByte {n : Nat} {s : State} (h : s.vdma.Left n) : s.vdmaCopyByte.vdma.Left n := { h with }

theorem VramDma.Left.copyBytes {n : Nat} (k : Nat) {s : State} (h : s.vdma.Left n) :
    (State.vdmaCopyBytes k s).vdma.Left n := by
  induction k generalizing s with
  | zero => exact h
  | succ k ih => exact ih h.copyByte

/-- No block becomes due while a General-DMA runs. -/
theorem VramDma.Left.cycles {n : Nat} (k c : Nat) {s : State} (h : s.vdma.Left n) :
    (State.vdmaCycles k c s).vdma.Left n := by
  induction c generalizing s with
  | zero => exact h
  | succ c ih =>
    have hbytes := h.copyBytes k
    exact ih (State.deviceTick_vdma_of_not_hblank hbytes.not_hblank ▸ hbytes)

/-- A block counts down both counters, and the last one ends the transfer. -/
theorem VramDma.Left.blockDone {n : Nat} {d : VramDma} (h : d.Left (n + 1)) : d.blockDone.Left n := by
  obtain ⟨hmode, hrem, hstall⟩ := h
  unfold VramDma.blockDone
  dsimp only
  rw [hrem, hstall, Nat.add_sub_cancel]
  split
  next h0 => subst h0; exact ⟨rfl, rfl, rfl⟩
  next h0 => exact ⟨by rw [if_neg h0]; exact hmode, rfl, rfl⟩

/-- A stall of a General-DMA runs the blocks that are left: what each block advances by one, the stall advances by their
number. -/
theorem State.vdmaBlocks_of_left {P : Nat → State → Prop} (block : ∀ b s, P b s → P (b + 1) s.vdmaBlock) {n fuel : Nat}
    (hfuel : n ≤ fuel) {s : State} (hs : s.vdma.Left n) {b : Nat} (h : P b s) :
    (State.vdmaBlocks fuel s).vdma.Left 0 ∧ P (b + n) (State.vdmaBlocks fuel s) := by
  induction n generalizing fuel s b with
  | zero =>
    have hstop : State.vdmaBlocks fuel s = s := by
      cases fuel with
      | zero => rfl
      | succ fuel => exact if_pos hs.stallBlocks
    rw [hstop]; exact ⟨hs, h⟩
  | succ n ih =>
    obtain ⟨fuel, rfl⟩ := Nat.exists_eq_succ_of_ne_zero (Nat.ne_of_gt (Nat.lt_of_lt_of_le n.succ_pos hfuel))
    have hrun : State.vdmaBlocks (fuel + 1) s = State.vdmaBlocks fuel s.vdmaBlock :=
      if_neg (by rw [hs.stallBlocks]; exact Nat.succ_ne_zero n)
    have hleft : s.vdmaBlock.vdma.Left n := (hs.cycles _ _).blockDone
    rw [hrun, ← Nat.add_assoc, Nat.add_right_comm]
    exact ih (Nat.le_of_succ_le_succ hfuel) hleft (block b s h)

/-! ## The bytes of a block -/

/-- What each copied byte advances by one, and no device tick changes, a cycle of `k` bytes advances by `k`. -/
theorem State.vdmaCopyBytes_counts {P : Nat → State → Prop} (copy : ∀ m s, P m s → P (m + 1) s.vdmaCopyByte) (k : Nat)
    {m : Nat} {s : State} (h : P m s) : P (m + k) (State.vdmaCopyBytes k s) := by
  induction k generalizing m s with
  | zero => exact h
  | succ k ih => rw [← Nat.add_assoc, Nat.add_right_comm]; exact ih (copy m s h)

theorem State.vdmaCycles_counts {P : Nat → State → Prop} (copy : ∀ m s, P m s → P (m + 1) s.vdmaCopyByte)
    (tick : ∀ m s, P m s → P m s.deviceTick) (k c : Nat) {m : Nat} {s : State} (h : P m s) :
    P (m + c * k) (State.vdmaCycles k c s) := by
  induction c generalizing m s with
  | zero => rw [Nat.zero_mul]; exact h
  | succ c ih =>
    rw [Nat.succ_mul, Nat.add_comm (c * k), ← Nat.add_assoc]
    exact ih (tick _ _ (State.vdmaCopyBytes_counts copy k h))

/-- At either speed a block is 16 bytes (R464, R466). -/
theorem Config.gdma_bytes_per_block (fast : Bool) :
    Config.gdmaMcyclesPerBlock fast * Config.gdmaBytesPerCycle fast = 16 := by
  cases fast <;> rfl

/-- And the M-cycles of a block are those of its cycles. -/
theorem State.vdmaCycles_mcycles (k c : Nat) (s : State) : (State.vdmaCycles k c s).mcycles = s.mcycles + c := by
  have hbytes (t : State) : (State.vdmaCopyBytes k t).mcycles = t.mcycles :=
    State.vdmaCopyBytes_keeps State.mcycles (fun _ => rfl) k t
  induction c generalizing s with
  | zero => rfl
  | succ c ih => rw [State.vdmaCycles, ih, State.deviceTick_mcycles, hbytes, Nat.add_assoc, Nat.add_comm 1]

theorem State.vdmaBlock_mcycles (s : State) :
    s.vdmaBlock.mcycles = s.mcycles + Config.gdmaMcyclesPerBlock s.doubleSpeed := State.vdmaCycles_mcycles _ _ s

/-- The end of a block leaves the addresses. -/
theorem VramDma.blockDone_addresses (d : VramDma) : d.blockDone.src = d.src ∧ d.blockDone.dst = d.dst := by
  unfold VramDma.blockDone; dsimp only; split <;> exact ⟨rfl, rfl⟩

/-- What each copied byte advances by one, and neither a device tick nor the end of a block changes, a block advances by
16. -/
theorem State.vdmaBlock_counts {P : Nat → State → Prop} (copy : ∀ m s, P m s → P (m + 1) s.vdmaCopyByte)
    (tick : ∀ m s, P m s → P m s.deviceTick) (done : ∀ m s, P m s → P m { s with vdma := s.vdma.blockDone }) {m : Nat}
    {s : State} (h : P m s) : P (m + 16) s.vdmaBlock := by
  rw [← Config.gdma_bytes_per_block s.doubleSpeed]
  exact done _ _ (State.vdmaCycles_counts copy tick _ _ h)

/-! ## What has been copied -/

/-- `t` has the addresses of the transfer of `s` after `m` bytes, the destination's as an offset in VRAM, and is otherwise
as `s` for the CPU (R466). -/
structure State.Transferred (s : State) (m : Nat) (t : State) : Prop where
  own : t.own = s.own
  src : t.vdma.src = s.vdma.src + BitVec.ofNat 16 m
  dst : t.vdma.dst.setWidth 13 = s.vdma.dst.setWidth 13 + BitVec.ofNat 13 m

/-- The destination moves on by one, modulo the size of VRAM. -/
theorem setWidth_next_destination (dst : Word) :
    (0x8000 ||| ((dst + 1) &&& 0x1FFF) : Word).setWidth 13 = dst.setWidth 13 + 1 := by
  have hmask : ((0x1FFF : Word).setWidth 13) = BitVec.allOnes 13 := rfl
  have hbase : ((0x8000 : Word).setWidth 13) = 0 := rfl
  rw [BitVec.setWidth_or, BitVec.setWidth_and, hmask, hbase, BitVec.and_allOnes, BitVec.setWidth_add _ _ (by decide)]
  exact BitVec.zero_or

theorem State.Transferred.copy {s t : State} {m : Nat} (h : s.Transferred m t) :
    s.Transferred (m + 1) t.vdmaCopyByte where
  own := h.own
  src := by
    show t.vdma.src + 1 = _
    rw [h.src, BitVec.ofNat_add, BitVec.add_assoc]; rfl
  dst := by
    show (0x8000 ||| ((t.vdma.dst + 1) &&& 0x1FFF) : Word).setWidth 13 = _
    rw [setWidth_next_destination, h.dst, BitVec.ofNat_add, BitVec.add_assoc]; rfl

theorem State.Transferred.tick {s t : State} {m : Nat} (h : s.Transferred m t) : s.Transferred m t.deviceTick where
  own := t.deviceTick_own.trans h.own
  src := (congrArg Untouched.vdmaSrc t.deviceTick_untouched).trans h.src
  dst := (congrArg (fun u : Untouched => u.vdmaDst.setWidth 13) t.deviceTick_untouched).trans h.dst

theorem State.own_blockDone (s : State) : ({ s with vdma := s.vdma.blockDone } : State).own = s.own := by
  obtain ⟨h1, h2, h3, h4⟩ := VramDma.blockDone_hdma s.vdma
  simp only [State.own, State.untouched, h1, h2, h3, h4]

theorem State.Transferred.done {s t : State} {m : Nat} (h : s.Transferred m t) :
    s.Transferred m { t with vdma := t.vdma.blockDone } := by
  obtain ⟨hsrc, hdst⟩ := t.vdma.blockDone_addresses
  exact ⟨t.own_blockDone.trans h.own, hsrc.trans h.src, (congrArg (BitVec.setWidth 13) hdst).trans h.dst⟩

/-- The cell of `vram` that byte `i` of the transfer goes to, while the destination does not wrap (R87, R466). -/
def State.vdmaKey (s : State) (i : Nat) : Nat := 0x2000 * s.vramBank + (s.vdma.dst.toNat - 0x8000) + i

/-- The transfer of `size` bytes reads work RAM, and its destination does not wrap. -/
structure State.FromWorkRam (s : State) (size : Nat) : Prop where
  src : 0xC000 ≤ s.vdma.src.toNat
  srcEnd : s.vdma.src.toNat + size ≤ 0xE000
  dst : 0x8000 ≤ s.vdma.dst.toNat
  dstEnd : s.vdma.dst.toNat + size ≤ 0xA000

/-- After `m` bytes the first `m` of the transfer are in `vram`. -/
structure State.BytesIn (s : State) (m : Nat) (t : State) : Prop where
  wf : t.vram.wf = true
  bytes : ∀ i < m, t.vram.read (s.vdmaKey i) = s.rawRead (s.vdma.src + BitVec.ofNat 16 i)

/-- The key that the engine writes is that of the next byte. -/
theorem State.Transferred.key {s t : State} {m size : Nat} (h : s.Transferred m t) (hw : s.FromWorkRam size)
    (hm : m < size) : 0x2000 * t.vramBank + (t.vdma.dst.setWidth 13).toNat = s.vdmaKey m := by
  obtain ⟨-, -, hdst, hdstEnd⟩ := hw
  have hbank : t.vramBank = s.vramBank := by
    have hp : t.params = s.params := congrArg Untouched.params h.own
    have hv : t.ppu.vbk = s.ppu.vbk := congrArg (fun u => u.ppu.vbk) h.own
    unfold State.vramBank State.isCgb; rw [hp, hv]
  have hoff : (t.vdma.dst.setWidth 13).toNat = s.vdma.dst.toNat - 0x8000 + m := by
    rw [h.dst, BitVec.toNat_add, BitVec.toNat_setWidth, BitVec.toNat_ofNat]; omega
  rw [hbank, hoff, State.vdmaKey, Nat.add_assoc]

/-- The byte that the engine reads is the next one of the source, as it was. -/
theorem State.Transferred.byte {s t : State} {m size : Nat} (h : s.Transferred m t) (hw : s.FromWorkRam size)
    (hm : m < size) : t.rawRead t.vdma.src = s.rawRead (s.vdma.src + BitVec.ofNat 16 m) := by
  obtain ⟨hsrc, hsrcEnd, -, -⟩ := hw
  have haddr : (s.vdma.src + BitVec.ofNat 16 m).toNat = s.vdma.src.toNat + m := by
    rw [BitVec.toNat_add, BitVec.toNat_ofNat]; omega
  rw [h.src]
  exact State.rawRead_wram_of_outer (State.outer_of_own h.own) (by omega) (by omega)

theorem State.BytesIn.copy {s t : State} {m size : Nat} (h : s.BytesIn m t) (ht : s.Transferred m t)
    (hw : s.FromWorkRam size) (hm : m < size) : s.BytesIn (m + 1) t.vdmaCopyByte := by
  have hvram : t.vdmaCopyByte.vram =
      t.vram.write (s.vdmaKey m) (s.rawRead (s.vdma.src + BitVec.ofNat 16 m)) := by
    rw [← ht.key hw hm, ← ht.byte hw hm]; rfl
  refine ⟨by rw [hvram]; exact Memory.wf_write h.wf _ _, fun i hi => ?_⟩
  rw [hvram, Memory.read_write h.wf]
  split
  next hkey => rw [show i = m from Nat.add_left_cancel hkey]
  next hkey => exact h.bytes i (Nat.lt_of_le_of_ne (Nat.le_of_lt_succ hi) fun e => hkey (by rw [e]))

/-- Where the transfer of `s` stands in `t` after `m` bytes: its addresses, and its bytes when they come from work RAM. -/
structure State.CopiedTo (s : State) (size m : Nat) (t : State) : Prop where
  transferred : s.Transferred m t
  bytes : s.vram.wf = true → s.FromWorkRam size → m ≤ size → s.BytesIn m t

theorem State.CopiedTo.refl (s : State) (size : Nat) : s.CopiedTo size 0 s where
  transferred := ⟨rfl, (BitVec.add_zero _).symm, (BitVec.add_zero _).symm⟩
  bytes hwf _ _ := ⟨hwf, nofun⟩

theorem State.CopiedTo.block {s t : State} {size m : Nat} (h : s.CopiedTo size m t) :
    s.CopiedTo size (m + 16) t.vdmaBlock := by
  refine State.vdmaBlock_counts (P := s.CopiedTo size) (fun m t h => ?copy) (fun m t h => ?tick) (fun m t h => ?done) h
  case copy =>
    exact ⟨h.transferred.copy, fun hwf hw hm => (h.bytes hwf hw (Nat.le_of_lt hm)).copy h.transferred hw hm⟩
  case tick =>
    refine ⟨h.transferred.tick, fun hwf hw hm => ?_⟩
    obtain ⟨hwf', hbytes⟩ := h.bytes hwf hw hm
    rw [← t.deviceTick_vram] at hwf' hbytes
    exact ⟨hwf', hbytes⟩
  case done => exact ⟨h.transferred.done, fun hwf hw hm => { h.bytes hwf hw hm with }⟩

/-- `b` blocks of the transfer of `s` have been copied, in their M-cycles (R464). -/
structure State.AfterBlocks (s : State) (size b : Nat) (t : State) : Prop where
  copied : s.CopiedTo size (16 * b) t
  mcycles : t.mcycles = s.mcycles + Config.gdmaMcyclesPerBlock s.doubleSpeed * b

theorem State.AfterBlocks.block {s t : State} {size b : Nat} (h : s.AfterBlocks size b t) :
    s.AfterBlocks size (b + 1) t.vdmaBlock where
  copied := h.copied.block
  mcycles := by
    have hspeed : t.doubleSpeed = s.doubleSpeed := congrArg Untouched.doubleSpeed h.copied.transferred.own
    rw [State.vdmaBlock_mcycles, h.mcycles, hspeed, Nat.mul_succ, Nat.add_assoc]

/-- Settles O48: the stall check runs the blocks that are left. -/
theorem generalDma : Obligations.GeneralDma := by
  intro s hm hmode hpos hstall n t
  have hleft : s.vdma.Left n := ⟨by rw [if_neg (Nat.ne_of_gt hpos)]; exact hmode, rfl, hstall⟩
  have ht : t = State.vdmaBlocks (n + 1) s := if_pos (State.isCgb_iff.2 hm)
  have hstart : s.AfterBlocks (16 * n) 0 s := ⟨.refl s _, rfl⟩
  obtain ⟨hend, hcopied, hmcycles⟩ := State.vdmaBlocks_of_left (P := s.AfterBlocks (16 * n))
    (fun _ _ h => h.block) (Nat.le_succ n) hleft hstart
  rw [← ht] at hend hcopied hmcycles
  rw [Nat.zero_add] at hcopied hmcycles
  refine ⟨⟨hmcycles, hend.mode, hend.remaining, hend.stallBlocks, hcopied.transferred.src, s.stallCheck_cpu,
    s.stallCheck_trace⟩, fun hwf hsrc hsrcEnd hdst hdstEnd i hi => ?_⟩
  have hbank : s.vramBank = s.ppu.vbk.toNat := if_pos (State.isCgb_iff.2 hm)
  rw [← hbank]
  exact (hcopied.bytes hwf ⟨hsrc, hsrcEnd, hdst, hdstEnd⟩ (Nat.le_refl _)).bytes i hi

end Sys2Proof.Machine
end

section
/-! PROOFS. The PPU as a program sees it (65_ppu.md R485 to R491, R536 to R546): the switch of the LCD, the STAT line, which
pixel shows, and the colour-RAM ports. -/

namespace Sys2Proof.Machine

/-! ## The switch of the LCD (R486, R496) -/

/-- A write that leaves bit 7 of LCDC only stores it (R485). -/
theorem State.writeLcdc_of_same {s : State} {v : Byte} (h : s.ppu.lcdc.getLsbD 7 = v.getLsbD 7) :
    s.writeLcdc v = { s with ppu := { s.ppu with lcdc := v } } := by
  simp only [State.writeLcdc, Ppu.storeLcdc, Ppu.lcdcSwitchesOn, Ppu.lcdOn, h, Bool.and_not_self, Bool.not_and_self,
    Bool.false_eq_true, if_false]

theorem State.writeLcdc_of_off {s : State} {v : Byte} (hon : s.ppu.lcdc.getLsbD 7 = true) (hv : v.getLsbD 7 = false) :
    s.writeLcdc v = { s with ppu := ({ s.ppu with lcdc := v } : Ppu).switchOff } := by
  simp only [State.writeLcdc, Ppu.storeLcdc, Ppu.lcdcSwitchesOn, Ppu.lcdOn, hon, hv]; rfl

theorem State.writeLcdc_of_on {s : State} {v : Byte} (hoff : s.ppu.lcdc.getLsbD 7 = false) (hv : v.getLsbD 7 = true) :
    s.writeLcdc v = ({ s with ppu := ({ s.ppu with lcdc := v } : Ppu).switchOn } : State).statUpdate := by
  simp only [State.writeLcdc, Ppu.storeLcdc, Ppu.lcdcSwitchesOn, Ppu.lcdOn, hoff, hv]; rfl

/-- Line 0 begins in mode 2, and WY is reached there when it is 0 (R486, R496). -/
theorem Ppu.switchOn_eq (p : Ppu) :
    p.switchOn = { p with
      ly := 0, dot := 0, windowLine := 0, winActive := false, mode := .oamScan, wyReached := decide (p.wy = 0) } := by
  have hwy : (false || decide ((0 : Byte) = p.wy)) = decide (p.wy = 0) := by simp only [Bool.false_or, eq_comm]
  rw [← hwy]; rfl

/-- With the LCD off a dot changes nothing (R486). -/
theorem State.ppuDot_of_off {s : State} (h : ¬ s.ppu.lcdOn = true) : s.ppuDot = s := by
  rw [State.ppuDot, Ppu.dotStep_of_off _ h]; rfl

theorem State.ppuDots_of_off {s : State} (h : ¬ s.ppu.lcdOn = true) (n : Nat) : State.ppuDots n s = s := by
  induction n with
  | zero => rfl
  | succ n ih => rw [State.ppuDots, State.ppuDot_of_off h, ih]

/-- Settles O50: the three kinds of write to LCDC, and the dots while the LCD is off. -/
theorem lcdSwitch : Obligations.LcdSwitch := by
  intro s v p q
  have hwrite : s.rawWrite 0xFF40 v = s.writeLcdc v := State.rawWrite_of (t := .io 0x40) rfl v
  rw [hwrite]
  refine ⟨State.writeLcdc_of_same, State.writeLcdc_of_off, fun hoff hv => ?_, fun hoff n => ?_⟩
  · rw [State.writeLcdc_of_on hoff hv, Ppu.switchOn_eq]
  · exact State.ppuDots_of_off (by rw [Ppu.lcdOn, hoff]; nofun) n

/-! ## The STAT line (R490, R491) -/

theorem Ppu.statSources_iff (p : Ppu) :
    p.statSources = true ↔ (p.statEnable.getLsbD 3 = true ∧ p.ly = p.lyc) ∨
      (p.statEnable.getLsbD 2 = true ∧ p.mode = .oamScan) ∨ (p.statEnable.getLsbD 1 = true ∧ p.mode = .vblank) ∨
      (p.statEnable.getLsbD 0 = true ∧ p.mode = .hblank) := by
  simp [Ppu.statSources, Ppu.coincidence, or_assoc]

theorem State.statUpdate_of_off {s : State} (h : s.ppu.lcdOn = false) : s.statUpdate = s := by
  rw [State.statUpdate, Ppu.statUpdate, Ppu.statRises, h]; rfl

theorem State.statUpdate_of_on {s : State} (h : s.ppu.lcdOn = true) :
    s.statUpdate = { s with
      ppu := { s.ppu with statLine := s.ppu.statSources }
      irq := s.irq.requestIf (s.ppu.statSources && !s.ppu.statLine) 1 } := by
  rw [State.statUpdate, Ppu.statUpdate, Ppu.statRises, h]; rfl

/-- Settles O51: the line is the sources' OR, and its rise is what `requestIf` tests. -/
theorem statLineRises : Obligations.StatLineRises := by
  intro s p line
  have hline : p.statSources = true ↔ line := p.statSources_iff
  refine ⟨State.statUpdate_of_off, fun hon => ?_, State.rawRead_of (t := .io 0x41) rfl⟩
  rw [State.statUpdate_of_on hon]
  refine ⟨hline, rfl, fun hhigh hlow => ?_, fun h => ?_⟩
  · show s.irq.requestIf (p.statSources && !p.statLine) 1 = _
    rw [hline.2 hhigh, hlow]; rfl
  · have hno : (p.statSources && !p.statLine) = false := by
      rcases h with hlow | hhigh
      · rw [Bool.eq_false_iff.2 (mt hline.1 hlow), Bool.false_and]
      · rw [hhigh]; exact Bool.and_false _
    show s.irq.requestIf (p.statSources && !p.statLine) 1 = _
    rw [hno]; rfl

/-! ## Which pixel shows (R536, R541 to R544) -/

theorem slotTaken_some_iff (v : Video) (p : Ppu) (px cur : ObjPixel) :
    slotTaken v p px (some cur) = true ↔
      cur.color = 0 ∨ v.params.model = .cgb ∧ p.opri.getLsbD 0 = false ∧ px.color ≠ 0 ∧ px.idx < cur.idx := by
  simp [slotTaken, objBeats, Params.isCgb, and_assoc]

/-- Settles O55: each mixing tests exactly the stated condition of the sprite's pixel, if there is one. -/
theorem pixelPriority : Obligations.PixelPriority := by
  intro v p
  refine ⟨fun px cur => ⟨rfl, slotTaken_some_iff v p px cur⟩, ?dmg, ?cgb⟩
  case dmg =>
    intro bg o hm bgc shade
    have hmix : p.mix v bg o = p.mixDmg v bg o := by rw [Ppu.mix, hm]
    rw [hmix]
    have hshows (q : ObjPixel) : (decide (q.color ≠ 0) && p.lcdc.getLsbD 1 && !(q.bgpri && decide (bgc ≠ 0))) = true ↔
        q.color ≠ 0 ∧ p.lcdc.getLsbD 1 = true ∧ ¬ (q.bgpri = true ∧ bgc ≠ 0) := by
      simp only [Bool.and_eq_true, Bool.not_eq_true', ← Bool.not_eq_true, decide_eq_true_eq, and_assoc]
    refine ⟨fun q ho hcolor hobj hpri => ?_, fun h => ?_⟩
    · subst ho; exact if_pos ((hshows q).2 ⟨hcolor, hobj, hpri⟩)
    · cases o with
      | none => rfl
      | some q =>
        refine if_neg fun hq => ?_
        obtain ⟨hcolor, hobj, hpri⟩ := (hshows q).1 hq
        rcases h q rfl with h0 | hoff | hbehind
        · exact hcolor h0
        · exact nomatch hoff.symm.trans hobj
        · exact hpri hbehind
  case cgb =>
    intro bg o hm wins entry
    have hmix : p.mix v bg o = p.mixCgb v bg o := by rw [Ppu.mix, hm]
    rw [hmix]
    have hwins (q : ObjPixel) : (decide (q.color ≠ 0) && p.lcdc.getLsbD 1 &&
        !(p.lcdc.getLsbD 0 && decide (bg.color ≠ 0) && (bg.pri || q.bgpri))) = true ↔ wins q := by
      simp only [wins, Bool.and_eq_true, Bool.or_eq_true, Bool.not_eq_true', ← Bool.not_eq_true, decide_eq_true_eq,
        and_assoc]
    refine ⟨fun q ho hq => ?_, fun h => ?_⟩
    · subst ho; exact if_pos ((hwins q).2 hq)
    · cases o with
      | none => rfl
      | some q => exact if_neg (mt (hwins q).1 (h q rfl))

/-! ## The colour-RAM ports (R546) -/

/-- Settles O56: each register's two accesses by its number in the I/O page. -/
theorem colourRamPort : Obligations.ColourRamPort := by
  intro s v hm next
  have port {a : Word} {x : Byte} {t : State} (r : Nat) (ha : s.target a = .io r) (hr : s.ioRead r = s.cgbOnly x)
      (hw : s.ioWrite r v = s.cgbWrite t) : s.rawRead a = x ∧ s.rawWrite a v = t :=
    State.raw_of_io r ha (hr.trans (State.cgbOnly_of_cgb hm x)) (hw.trans (State.cgbWrite_of_cgb hm t))
  obtain ⟨hbcps, hbcps'⟩ := port (a := 0xFF68) 0x68 rfl rfl rfl
  obtain ⟨hbcpd, hbcpd'⟩ := port (a := 0xFF69) 0x69 rfl rfl rfl
  obtain ⟨hocps, hocps'⟩ := port (a := 0xFF6A) 0x6A rfl rfl rfl
  obtain ⟨hocpd, hocpd'⟩ := port (a := 0xFF6B) 0x6B rfl rfl rfl
  exact ⟨hbcps, hbcps', hbcpd, hbcpd', hocps, hocps', hocpd, hocpd'⟩

end Sys2Proof.Machine
end

section
/-! PROOFS. The PPU's schedule (65_ppu.md R480, R495) and the OAM scan (R500). -/

namespace Sys2Proof.Machine

/-! ## The place on the screen -/

/-- Line 0 follows line 153 (R495). -/
theorem Ppu.nextLine_ly_toNat {p : Ppu} (h : p.ly.toNat < 154) : p.nextLine.ly.toNat = (p.ly.toNat + 1) % 154 := by
  have hsucc : (p.ly + 1).toNat = p.ly.toNat + 1 := by bv_omega
  unfold Ppu.nextLine
  dsimp only
  split
  next h144 =>
    have : p.ly.toNat + 1 = 144 := by rw [← hsucc, h144]; rfl
    show (p.ly + 1).toNat = _
    omega
  next =>
    split
    next h154 =>
      have : p.ly.toNat + 1 = 154 := by rw [← hsucc, h154]; rfl
      show 0 = _
      omega
    next h154 =>
      have : p.ly.toNat + 1 ≠ 154 := fun e => h154 (BitVec.eq_of_toNat_eq (hsucc.trans e))
      show (p.ly + 1).toNat = _
      omega

/-- The last dot of a line leads to the start of the next one. -/
theorem Ppu.dotStep_last (v : Video) {p : Ppu} (hon : p.lcdOn = true) (hly : p.ly.toNat < 154) (h : p.dot = 455) :
    (p.dotStep v).ppu.ly.toNat = (p.ly.toNat + 1) % 154 ∧ (p.dotStep v).ppu.dot = 0 := by
  have hb := p.dotBody_advances v
  have hdot : (p.dotBody v).ppu.dot = 456 := by rw [hb.dot, h]
  obtain ⟨kly, kdot, -⟩ := (p.dotBody v).ppu.nextLine.beginLine_keeps
  have hplace := (p.dotBody v).ppu.nextLine.beginLine.statUpdate_place
  rw [Ppu.dotStep_of_on v hon, DotOut.endLine_of_last hdot]
  constructor
  · rw [← hb.ly, ← Ppu.nextLine_ly_toNat (hb.ly.symm ▸ hly), ← kly]
    exact congrArg (fun q : PpuPlace => q.ly.toNat) hplace
  · rw [← (p.dotBody v).ppu.nextLine_keeps.1, ← kdot]
    exact congrArg PpuPlace.dot hplace

/-- The number of the place in the frame: `456·LY + dot` (R480). -/
def Ppu.placeNumber (p : Ppu) : Nat := 456 * p.ly.toNat + p.dot

theorem Ppu.Ok.placeNumber_lt {p : Ppu} (h : p.Ok) : p.placeNumber < 70224 := by
  have hly := h.ly
  have hdot := h.dot
  unfold Ppu.placeNumber
  omega

/-- A dot moves the place on by one. -/
theorem Ppu.dotStep_placeNumber (v : Video) {p : Ppu} (h : p.Ok) (hon : p.lcdOn = true) :
    (p.dotStep v).ppu.placeNumber = (p.placeNumber + 1) % 70224 := by
  have hly := h.ly
  have hdot := h.dot
  unfold Ppu.placeNumber
  by_cases hlast : p.dot = 455
  · obtain ⟨hly', hdot'⟩ := Ppu.dotStep_last v hon hly hlast
    rw [hly', hdot']
    omega
  · obtain ⟨hly', hdot'⟩ := Ppu.dotStep_within v hon (by omega)
    rw [hly', hdot']
    omega

/-- `n` dots. -/
def Ppu.dots (v : Video) (n : Nat) (p : Ppu) : Ppu := Nat.repeat (fun q : Ppu => (q.dotStep v).ppu) n p

theorem Ppu.dots_succ (v : Video) (n : Nat) (p : Ppu) : p.dots v (n + 1) = ((p.dots v n).dotStep v).ppu := rfl

theorem Ppu.dots_ok (v : Video) {p : Ppu} (h : p.Ok) (hon : p.lcdOn = true) (n : Nat) :
    (p.dots v n).Ok ∧ (p.dots v n).lcdOn = true := by
  induction n with
  | zero => exact ⟨h, hon⟩
  | succ n ih => exact ⟨Ppu.dotStep_ok v ih.1, (Ppu.dotStep_lcdOn v _).trans ih.2⟩

/-- Settles O52: by induction on the dots, each of which keeps the PPU on its schedule. -/
theorem dotSchedule : Obligations.DotSchedule := by
  intro v p n h hon place after
  show (p.dots v n).placeNumber = (p.placeNumber + n) % 70224
  induction n with
  | zero => exact (Nat.mod_eq_of_lt h.placeNumber_lt).symm
  | succ n ih =>
    obtain ⟨hok, hon'⟩ := Ppu.dots_ok v h hon n
    rw [Ppu.dots_succ, Ppu.dotStep_placeNumber v hok hon', ih, Nat.mod_add_mod, Nat.add_assoc]

/-! ## The OAM scan -/

/-- The entry of OAM with index `i`, not fetched yet (R500). -/
def oamSprite (oam : Memory) (i : Nat) : Sprite :=
  { i := i, y := oam.read (4 * i), x := oam.read (4 * i + 1), t := oam.read (4 * i + 2), a := oam.read (4 * i + 3),
    done := false }

/-- That entry covers line `ly` with sprites of height `h` (R500). -/
def oamCovers (oam : Memory) (ly h i : Nat) : Bool :=
  decide ((oam.read (4 * i)).toNat ≤ ly + 16 ∧ ly + 16 < (oam.read (4 * i)).toNat + h)

/-- The scan keeps the entries that cover the line, in OAM order. -/
theorem scanOam_eq (oam : Memory) (ly h n i : Nat) :
    scanOam oam ly h n i = ((List.range' i n).filter (oamCovers oam ly h)).map (oamSprite oam) := by
  induction n generalizing i with
  | zero => rfl
  | succ n ih =>
    rw [List.range'_succ, List.filter_cons, scanOam, ih]
    simp only [oamCovers, decide_eq_true_eq]
    split <;> rfl

theorem mem_scanOam {oam : Memory} {ly h n : Nat} {s : Sprite} :
    s ∈ scanOam oam ly h n 0 ↔ ∃ i < n, oamCovers oam ly h i = true ∧ oamSprite oam i = s := by
  simp [scanOam_eq, and_assoc]

theorem scanOam_pairwise (oam : Memory) (ly h n i : Nat) : (scanOam oam ly h n i).Pairwise (fun s t => s.i < t.i) := by
  rw [scanOam_eq, List.pairwise_map]
  exact (List.pairwise_lt_range' ..).filter _

theorem insertByX_perm (s : Sprite) (l : List Sprite) : (insertByX s l).Perm (s :: l) := by
  induction l with
  | nil => exact .refl _
  | cons t ts ih =>
    unfold insertByX
    split
    · exact .refl _
    · exact (ih.cons t).trans (.swap s t ts)

theorem sortByX_perm (l : List Sprite) : (sortByX l).Perm l := by
  induction l with
  | nil => exact .refl _
  | cons s ss ih => exact (insertByX_perm s _).trans (ih.cons s)

/-- The order of `line_sprites`: by X, equal X in OAM order (R500). -/
def Sprite.Before (s t : Sprite) : Prop := s.x.toNat < t.x.toNat ∨ s.x = t.x ∧ s.i < t.i

theorem Sprite.Before.x_le {s t : Sprite} (h : s.Before t) : s.x.toNat ≤ t.x.toNat := by
  rcases h with h | ⟨h, -⟩
  · exact Nat.le_of_lt h
  · rw [h]

theorem Sprite.before_of_le {s t : Sprite} (hx : s.x.toNat ≤ t.x.toNat) (hi : s.i < t.i) : s.Before t :=
  (Nat.lt_or_eq_of_le hx).imp_right fun e => ⟨BitVec.eq_of_toNat_eq e, hi⟩

/-- An entry that is earlier in OAM than all of a sorted list goes to its place in front of those of its X. -/
theorem insertByX_pairwise {s : Sprite} {l : List Sprite} (hl : l.Pairwise Sprite.Before) (hi : ∀ t ∈ l, s.i < t.i) :
    (insertByX s l).Pairwise Sprite.Before := by
  induction l with
  | nil => exact List.pairwise_singleton _ _
  | cons t ts ih =>
    obtain ⟨ht, hts⟩ := List.pairwise_cons.1 hl
    unfold insertByX
    split
    next hx =>
      refine List.pairwise_cons.2 ⟨fun u hu => Sprite.before_of_le ?_ (hi u hu), hl⟩
      rcases List.mem_cons.1 hu with rfl | hu
      · exact hx
      · exact Nat.le_trans hx (ht u hu).x_le
    next hx =>
      refine List.pairwise_cons.2 ⟨fun u hu => ?_, ih hts fun u hu => hi u (List.mem_cons_of_mem t hu)⟩
      rcases List.mem_cons.1 ((insertByX_perm s ts).mem_iff.1 hu) with rfl | hu
      · exact .inl (Nat.lt_of_not_le hx)
      · exact ht u hu

theorem sortByX_pairwise {l : List Sprite} (h : l.Pairwise (fun s t => s.i < t.i)) :
    (sortByX l).Pairwise Sprite.Before := by
  induction l with
  | nil => exact .nil
  | cons s ss ih =>
    obtain ⟨hs, hss⟩ := List.pairwise_cons.1 h
    exact insertByX_pairwise (ih hss) fun t ht => hs t ((sortByX_perm ss).mem_iff.1 ht)

/-- An entry that the cut after ten leaves out comes after ten that it keeps. -/
theorem mem_take_or_later {l : List Sprite} (h : l.Pairwise (fun s t => s.i < t.i)) {n : Nat} {s : Sprite}
    (hs : s ∈ l) : s ∈ l.take n ∨ (l.take n).length = n ∧ ∀ t ∈ l.take n, t.i < s.i := by
  rw [← List.take_append_drop n l] at h hs
  refine (List.mem_append.1 hs).imp_right fun hdrop => ⟨?_, fun t ht => (List.pairwise_append.1 h).2.2 t ht s hdrop⟩
  have hpos := List.length_pos_of_mem hdrop
  rw [List.length_drop] at hpos
  rw [List.length_take]
  omega

/-- Settles O53: what is kept are the first ten of the entries that cover the line, sorted. -/
theorem oamScanSelects : Obligations.OamScanSelects := by
  intro v p h covers l
  let scan := scanOam v.oam p.ly.toNat h 40 0
  have hscan : scan.Pairwise (fun s t => s.i < t.i) := scanOam_pairwise _ _ _ _ _
  have hl : l.Perm (scan.take 10) := sortByX_perm _
  have hcovers (i : Nat) : oamCovers v.oam p.ly.toNat h i = true ↔ covers i := decide_eq_true_iff
  refine ⟨?_, fun s hs => ?_, sortByX_pairwise (hscan.sublist (List.take_sublist 10 scan)), fun i hi hc hroom => ?_⟩
  · rw [hl.length_eq]; exact List.length_take_le 10 scan
  · obtain ⟨i, hi, hc, rfl⟩ := mem_scanOam.1 (List.mem_of_mem_take (hl.mem_iff.1 hs))
    exact ⟨hi, (hcovers i).1 hc, rfl, rfl, rfl, rfl, rfl⟩
  · have hmem : oamSprite v.oam i ∈ scan := mem_scanOam.2 ⟨i, hi, (hcovers i).2 hc, rfl⟩
    rcases mem_take_or_later hscan (n := 10) hmem with hkept | ⟨hfull, hlater⟩
    · exact ⟨_, hl.mem_iff.2 hkept, rfl⟩
    · rcases hroom with hshort | ⟨s, hs, his⟩
      · rw [hl.length_eq, hfull] at hshort
        exact absurd hshort (Nat.lt_irrefl 10)
      · exact absurd his (Nat.lt_asymm (hlater s (hl.mem_iff.1 hs)))

end Sys2Proof.Machine
end

section
/-! PROOFS. The length of mode 3 without sprites and window (65_ppu.md R502 to R510, R520 to R524): when the fetcher pushes a
row depends on none of the bytes it fetches, and from the first row on one pixel is popped on every dot. -/

namespace Sys2Proof.Machine

/-! ## The fetcher's control: what of it decides when it pushes -/

/-- The fetcher's state, less the bytes it fetched, and how many background pixels wait (R502, R520). -/
structure FetchControl where
  fState : FetchState
  fSub : Nat
  firstFetch : Bool
  pushed : Bool
  queued : Nat

/-- The control of a pipeline. -/
def Pipeline.control (q : Pipeline) : FetchControl :=
  { fState := q.fState, fSub := q.fSub, firstFetch := q.firstFetch, pushed := q.pushed, queued := q.bgFifo.length }

/-- The `Push` state on the control alone (R520, R523). -/
def FetchControl.push (c : FetchControl) : FetchControl :=
  let d := if !c.pushed && c.queued == 0 then { c with queued := 8, pushed := true } else c
  if d.pushed && decide (2 ≤ c.fSub + 1) then { d with fState := .getTile, fSub := 0 } else { d with fSub := c.fSub + 1 }

/-- `BgFetchStep()` on the control alone (R520). -/
def FetchControl.fetch (c : FetchControl) : FetchControl :=
  match c.fState with
  | .push => c.push
  | .getTile =>
    if c.fSub + 1 < 2 then { c with fSub := c.fSub + 1 }
    else { c with fSub := 0, fState := .getTileDataLow, pushed := false }
  | .getTileDataLow =>
    if c.fSub + 1 < 2 then { c with fSub := c.fSub + 1 }
    else { c with fSub := 0, fState := .getTileDataHigh, pushed := false }
  | .getTileDataHigh =>
    if c.fSub + 1 < 2 then { c with fSub := c.fSub + 1 }
    else if c.firstFetch then { c with fSub := 0, firstFetch := false, fState := .getTile }
    else { c with fSub := 0, fState := .push, pushed := false }

section
variable {c : FetchControl}

theorem FetchControl.fetch_push (h : c.fState = .push) : c.fetch = c.push := by
  simp only [FetchControl.fetch, h]

theorem FetchControl.fetch_waits (h : c.fState ≠ .push) (hs : c.fSub + 1 < 2) :
    c.fetch = { c with fSub := c.fSub + 1 } := by
  cases hc : c.fState with
  | push => exact absurd hc h
  | getTile | getTileDataLow | getTileDataHigh => simp only [FetchControl.fetch, hc, if_pos hs]

theorem FetchControl.fetch_tile (h : c.fState = .getTile) (hs : ¬ c.fSub + 1 < 2) :
    c.fetch = { c with fSub := 0, fState := .getTileDataLow, pushed := false } := by
  simp only [FetchControl.fetch, h, if_neg hs]

theorem FetchControl.fetch_low (h : c.fState = .getTileDataLow) (hs : ¬ c.fSub + 1 < 2) :
    c.fetch = { c with fSub := 0, fState := .getTileDataHigh, pushed := false } := by
  simp only [FetchControl.fetch, h, if_neg hs]

/-- The first row of a line is thrown away (R524). -/
theorem FetchControl.fetch_first (h : c.fState = .getTileDataHigh) (hs : ¬ c.fSub + 1 < 2) (hf : c.firstFetch = true) :
    c.fetch = { c with fSub := 0, firstFetch := false, fState := .getTile } := by
  simp only [FetchControl.fetch, h, if_neg hs, hf, if_true]

theorem FetchControl.fetch_high (h : c.fState = .getTileDataHigh) (hs : ¬ c.fSub + 1 < 2) (hf : ¬ c.firstFetch = true) :
    c.fetch = { c with fSub := 0, fState := .push, pushed := false } := by
  simp only [FetchControl.fetch, h, if_neg hs, if_neg hf]

end

/-- A row is eight pixels, whatever its bytes. -/
theorem Pipeline.pushStep_control (q : Pipeline) :
    ({ q with fSub := q.fSub + 1 } : Pipeline).pushStep.control = q.control.push := by
  have hfill : (!q.control.pushed && q.control.queued == 0) = (!q.pushed && q.bgFifo.isEmpty) := by
    unfold Pipeline.control; cases q.bgFifo <;> rfl
  unfold Pipeline.pushStep FetchControl.push
  simp only [hfill]
  cases h : !q.pushed && q.bgFifo.isEmpty with
  | true => exact apply_ite Pipeline.control _ _ _
  | false => exact apply_ite Pipeline.control _ _ _

/-- The bytes fetched decide nothing. -/
theorem Ppu.bgFetchStep_control (v : Video) (p : Ppu) : (p.bgFetchStep v).pipe.control = p.pipe.control.fetch := by
  unfold Ppu.bgFetchStep
  dsimp only
  split
  next h => exact p.pipe.pushStep_control.trans (FetchControl.fetch_push (c := p.pipe.control) h).symm
  next h =>
    split
    next hs => exact (FetchControl.fetch_waits (c := p.pipe.control) (fun e => nomatch h.symm.trans e) hs).symm
    next hs => exact (FetchControl.fetch_tile (c := p.pipe.control) h hs).symm
  next h =>
    split
    next hs => exact (FetchControl.fetch_waits (c := p.pipe.control) (fun e => nomatch h.symm.trans e) hs).symm
    next hs => exact (FetchControl.fetch_low (c := p.pipe.control) h hs).symm
  next h =>
    split
    next hs => exact (FetchControl.fetch_waits (c := p.pipe.control) (fun e => nomatch h.symm.trans e) hs).symm
    next hs =>
      split
      next hf => exact (FetchControl.fetch_first (c := p.pipe.control) h hs hf).symm
      next hf => exact (FetchControl.fetch_high (c := p.pipe.control) h hs hf).symm

/-- Nor does the fetcher touch the pixels to discard or a sprite's fetch. -/
theorem Ppu.bgFetchStep_keeps (v : Video) (p : Ppu) :
    (p.bgFetchStep v).pipe.discard = p.pipe.discard ∧ (p.bgFetchStep v).pipe.spriteFetch = p.pipe.spriteFetch := by
  unfold Ppu.bgFetchStep
  dsimp only
  split
  · unfold Pipeline.pushStep; dsimp only; split <;> split <;> exact ⟨rfl, rfl⟩
  · split <;> exact ⟨rfl, rfl⟩
  · split <;> exact ⟨rfl, rfl⟩
  · split
    · exact ⟨rfl, rfl⟩
    · split <;> exact ⟨rfl, rfl⟩

/-! ## A dot without sprites and window -/

/-- How many pixels a dot pops: one if one waits after the fetcher's part (R503). -/
def FetchControl.pops (c : FetchControl) : Nat := if c.fetch.queued = 0 then 0 else 1

/-- A dot of the control. -/
def FetchControl.dot (c : FetchControl) : FetchControl := { c.fetch with queued := c.fetch.queued - c.pops }

/-- The LCD is on, sprites and the window are off (R53). -/
structure Ppu.Bare (p : Ppu) : Prop where
  lcd : p.lcdc.getLsbD 7 = true
  obj : p.lcdc.getLsbD 1 = false
  window : p.lcdc.getLsbD 5 = false

theorem Ppu.Bare.of_regs {p q : Ppu} (h : p.Bare) (e : q.regs = p.regs) : q.Bare := by
  have hlcdc : q.lcdc = p.lcdc := congrArg PpuRegs.lcdc e
  exact ⟨hlcdc ▸ h.lcd, hlcdc ▸ h.obj, hlcdc ▸ h.window⟩

/-- What a dot of mode 3 leaves that pops `n` pixels, none or one, with `d` pixels to discard before it and the next
pixel's column at `x`: the pixel is discarded while there are such, and written after (R503, R510). -/
structure Mode3Out.Popped (n d x : Nat) (c : FetchControl) (o : Mode3Out) : Prop where
  control : o.ppu.pipe.control = c
  discard : o.ppu.pipe.discard = d - n
  lx : o.ppu.pipe.lx = x + (n - d)
  spriteFetch : o.ppu.pipe.spriteFetch = none
  pixel : o.pixel.isSome = decide (d < n)

theorem Ppu.popPixel_popped (v : Video) {p : Ppu} (hs : p.pipe.spriteFetch = none) (bg : BgPixel) (rest : List BgPixel) :
    (p.popPixel v bg rest).Popped 1 p.pipe.discard p.pipe.lx { p.pipe.control with queued := rest.length } := by
  unfold Ppu.popPixel
  split
  next h =>
    exact ⟨rfl, rfl, by rw [Nat.sub_eq_zero_of_le h]; rfl, hs, (decide_eq_false (Nat.not_lt.2 h)).symm⟩
  next h =>
    have h0 : p.pipe.discard = 0 := Nat.eq_zero_of_not_pos h
    exact ⟨rfl, h0.trans (by rw [h0]), by rw [h0], hs, by rw [h0]; rfl⟩

/-- With sprites and the window off, a dot pops a pixel whenever one waits. -/
theorem Ppu.Bare.drawStep {p : Ppu} (h : p.Bare) (v : Video) (hs : p.pipe.spriteFetch = none) {n : Nat}
    (hn : n = if p.pipe.control.queued = 0 then 0 else 1) :
    (p.drawStep v).Popped n p.pipe.discard p.pipe.lx
      { p.pipe.control with queued := p.pipe.control.queued - n } := by
  have hsprite : p.spriteTrigger = none := by rw [Ppu.spriteTrigger, h.obj]; rfl
  have hwindow : p.windowTriggers v = false := by simp only [Ppu.windowTriggers, h.window, Bool.false_and]
  unfold Ppu.drawStep
  rw [hsprite, hwindow]
  split
  next hq =>
    have h0 : p.pipe.control.queued = 0 := congrArg List.length hq
    rw [if_pos h0] at hn
    subst hn
    exact ⟨rfl, rfl, by rw [Nat.zero_sub]; rfl, hs, rfl⟩
  next bg rest hq =>
    have h1 : p.pipe.control.queued = rest.length + 1 := congrArg List.length hq
    rw [if_neg (by rw [h1]; exact Nat.succ_ne_zero _)] at hn
    subst hn
    rw [h1]
    exact Ppu.popPixel_popped v hs bg rest

theorem Ppu.Bare.mode3Dot {p : Ppu} (h : p.Bare) (v : Video) (hs : p.pipe.spriteFetch = none) :
    (p.mode3Dot v).Popped p.pipe.control.pops p.pipe.discard p.pipe.lx p.pipe.control.dot := by
  have hcontrol := p.bgFetchStep_control v
  obtain ⟨hdiscard, hsprite⟩ := p.bgFetchStep_keeps v
  have hlx := (p.bgFetchStep_place v).2
  have hdot : p.mode3Dot v = (p.bgFetchStep v).drawStep v := by rw [Ppu.mode3Dot, hs]
  rw [hdot, FetchControl.dot, ← hdiscard, ← hlx, ← hcontrol]
  exact (h.of_regs (p.bgFetchStep_regs v)).drawStep v (hsprite.trans hs) (by rw [FetchControl.pops, hcontrol])

/-! ## When pixels are popped -/

/-- The control when mode 3 begins (R502). -/
def FetchControl.start : FetchControl :=
  { fState := .getTile, fSub := 0, firstFetch := true, pushed := false, queued := 0 }

/-- The control when a row has been fetched and none waits. -/
def FetchControl.fetched : FetchControl :=
  { fState := .push, fSub := 0, firstFetch := false, pushed := false, queued := 0 }

/-- Two rows are fetched, in 12 dots, before the first pixel (R524). -/
theorem FetchControl.dot_start : FetchControl.dot^[12] .start = .fetched ∧
    ∀ k < 12, (FetchControl.dot^[k] .start).pops = 0 := ⟨rfl, by decide⟩

/-- From then on a row is popped in the 8 dots in which the next is fetched. -/
theorem FetchControl.dot_fetched : FetchControl.dot^[8] .fetched = .fetched ∧
    ∀ k < 8, (FetchControl.dot^[k] .fetched).pops = 1 := ⟨rfl, by decide⟩

/-- So every dot of mode 3 but the first 12 pops one pixel. -/
theorem FetchControl.pops_start (k : Nat) : (FetchControl.dot^[k] .start).pops = if k < 12 then 0 else 1 := by
  split
  next h => exact dot_start.2 k h
  next h =>
    obtain ⟨j, rfl⟩ := Nat.exists_eq_add_of_le' (Nat.le_of_not_lt h)
    have hperiod : Function.IsPeriodicPt FetchControl.dot 8 .fetched := dot_fetched.1
    rw [Function.iterate_add_apply, dot_start.1, ← hperiod.iterate_mod_apply]
    exact dot_fetched.2 _ (Nat.mod_lt j (by decide))

/-! ## The dots of mode 3 -/

/-- `p` is `k` dots into the mode 3 of a line with fine scroll `d`: it has popped a pixel on each dot but the first 12, and
discarded the first `d` of them. -/
structure Ppu.InMode3 (d k : Nat) (p : Ppu) : Prop where
  bare : p.Bare
  mode : p.mode = .drawing
  dot : p.dot = 80 + k
  control : p.pipe.control = FetchControl.dot^[k] .start
  discard : p.pipe.discard = d - (k - 12)
  lx : p.pipe.lx = k - 12 - d
  spriteFetch : p.pipe.spriteFetch = none

theorem Ppu.dotBody_of_drawing (v : Video) {p : Ppu} (h : p.mode = .drawing) :
    (p.dotBody v).ppu = if (p.mode3Dot v).finished
      then { (p.mode3Dot v).ppu with dot := (p.mode3Dot v).ppu.dot + 1, mode := .hblank }
      else { (p.mode3Dot v).ppu with dot := (p.mode3Dot v).ppu.dot + 1 } := by
  simp only [Ppu.dotBody, h]

/-- The evaluation of the STAT line at the end of a dot changes nothing else (R491). -/
theorem Ppu.statUpdate_eq (p : Ppu) : ∃ b, p.statUpdate = { p with statLine := b } := by
  unfold Ppu.statUpdate; split
  · exact ⟨_, rfl⟩
  · exact ⟨p.statLine, rfl⟩

/-- A dot that does not end a line is its first part and that evaluation. -/
theorem Ppu.dotStep_eq_dotBody (v : Video) {p : Ppu} (hon : p.lcdOn = true) (h : p.dot + 1 < 456) :
    ∃ b, (p.dotStep v).ppu = { (p.dotBody v).ppu with statLine := b } := by
  have hlast : (p.dotBody v).ppu.dot ≠ 456 := by rw [(p.dotBody_advances v).dot]; omega
  rw [Ppu.dotStep_of_on v hon, DotOut.endLine_of_not_last hlast]
  exact (p.dotBody v).ppu.statUpdate_eq

/-- The last dot of mode 2 begins mode 3 (R495, R502). -/
theorem Ppu.Bare.startMode3 {p : Ppu} (h : p.Bare) (v : Video) (hm : p.mode = .oamScan) (hd : p.dot = 79) :
    (p.dotStep v).ppu.InMode3 (p.scx.toNat % 8) 0 := by
  obtain ⟨b, e⟩ := Ppu.dotStep_eq_dotBody v (p := p) h.lcd (by omega)
  have hbody : (p.dotBody v).ppu = (({ p with dot := 80 } : Ppu).oamScan v).startMode3 := by
    simp only [Ppu.dotBody, hm, hd, Nat.reduceAdd, if_true]
  rw [e, hbody]
  exact ⟨{ h with }, rfl, rfl, rfl, BitVec.toNat_setWidth 3 p.scx, (Nat.zero_sub _).symm, rfl⟩

/-- A dot of mode 3 pops the next pixel; the one that writes the 160th ends the mode (R503). -/
theorem Ppu.InMode3.dotStep {d k : Nat} {p : Ppu} (h : p.InMode3 d k) (v : Video) (hd : d < 8) (hk : k < 172 + d) :
    if k + 1 = 172 + d then (p.dotStep v).ppu.mode = .hblank ∧ (p.dotStep v).ppu.pipe.lx = 160
    else (p.dotStep v).ppu.InMode3 d (k + 1) := by
  obtain ⟨hbare, hmode, hdot, hcontrol, hdiscard, hlx, hsprite⟩ := h
  obtain ⟨b, e⟩ := Ppu.dotStep_eq_dotBody v (p := p) hbare.lcd (by omega)
  obtain ⟨hcontrol', hdiscard', hlx', hsprite', hpixel⟩ := hbare.mode3Dot v hsprite
  have hregs := p.mode3Dot_regs v
  have hplace := (p.mode3Dot_drawsFrom v).place
  rw [e, Ppu.dotBody_of_drawing v hmode]
  generalize p.mode3Dot v = o at *
  have hpops : p.pipe.control.pops = if k < 12 then 0 else 1 := by rw [hcontrol, FetchControl.pops_start]
  have hlast : o.finished = true ↔ k + 1 = 172 + d := by
    rw [Mode3Out.finished, hpixel, Bool.and_eq_true, decide_eq_true_eq, decide_eq_true_eq, hlx', hlx, hdiscard, hpops]
    split <;> omega
  split
  next hend =>
    rw [if_pos (hlast.2 hend)]
    refine ⟨rfl, ?_⟩
    show o.ppu.pipe.lx = 160
    rw [hlx', hlx, hdiscard, hpops]
    split <;> omega
  next hmore =>
    rw [if_neg (mt hlast.1 hmore)]
    have hbare' : o.ppu.Bare := hbare.of_regs hregs
    refine
      { bare := { hbare' with }
        mode := (congrArg PpuPlace.mode hplace).trans hmode
        dot := ?_
        control := ?_
        discard := ?_
        lx := ?_
        spriteFetch := hsprite' }
    · show o.ppu.dot + 1 = _
      have hdot' : o.ppu.dot = p.dot := congrArg PpuPlace.dot hplace
      rw [hdot', hdot, Nat.add_assoc]
    · show o.ppu.pipe.control = _
      rw [hcontrol', hcontrol]
      exact (Function.iterate_succ_apply' FetchControl.dot k .start).symm
    · show o.ppu.pipe.discard = _
      rw [hdiscard', hdiscard, hpops]
      split <;> omega
    · show o.ppu.pipe.lx = _
      rw [hlx', hlx, hdiscard, hpops]
      split <;> omega

/-- The dots of mode 3 before its last. -/
theorem Ppu.InMode3.dots {v : Video} {d : Nat} {p : Ppu} (h : (p.dots v 1).InMode3 d 0) (hd : d < 8) {k : Nat}
    (hk : k < 172 + d) : (p.dots v (k + 1)).InMode3 d k := by
  induction k with
  | zero => exact h
  | succ k ih =>
    have hstep := (ih (by omega)).dotStep v hd (by omega)
    rwa [if_neg (Nat.ne_of_lt hk)] at hstep

/-- Settles O54: mode 3 begins with the next dot, and its last dot is that of the 160th pixel. -/
theorem mode3Length : Obligations.Mode3Length := by
  intro v p hlcd hobj hwindow hmode hdot after length
  have hd := Nat.mod_lt p.scx.toNat (by decide : 0 < 8)
  have hstart : (p.dots v 1).InMode3 (p.scx.toNat % 8) 0 := Ppu.Bare.startMode3 ⟨hlcd, hobj, hwindow⟩ v hmode hdot
  have run {k : Nat} (hk : k < length) : (after (k + 1)).InMode3 (p.scx.toNat % 8) k := hstart.dots hd hk
  refine ⟨fun n hpos hn => ?_, ?_⟩
  · obtain ⟨k, rfl⟩ := Nat.exists_eq_add_of_le' hpos
    exact (run hn).mode
  · have hlast := (run (k := 171 + p.scx.toNat % 8) (by omega)).dotStep v hd (by omega)
    rw [if_pos (by omega)] at hlast
    have hlength : length = 171 + p.scx.toNat % 8 + 1 := by omega
    rw [hlength]
    exact hlast

end Sys2Proof.Machine
end

section
/-! PROOFS. The published times (70_reset_and_hazards.md R595): how many M-cycles each shape spends after its fetches, and
that the bus trace and, on `Dmg`, the clock count exactly those. -/

namespace Sys2Proof.Machine

/-! ## Spending M-cycles -/

/-- From `s` to `t` the CPU spends `n` M-cycles: so much longer is the bus trace, and on `Dmg`, where nothing stalls the
CPU, so much time passes. -/
structure State.Spends (s : State) (n : Nat) (t : State) : Prop where
  trace : t.trace.length = s.trace.length + n
  params : t.params = s.params
  time : s.params.model = .dmg → t.mcycles = s.mcycles + n

namespace State.Spends

theorem refl (s : State) : s.Spends 0 s := ⟨rfl, rfl, fun _ => rfl⟩

variable {s t : State} {n : Nat} (h : s.Spends n t)
include h

theorem cpu (c : Cpu) : s.Spends n { t with cpu := c } := ⟨h.trace, h.params, h.time⟩

theorem stallCheck_eq (hdmg : s.params.model = .dmg) : t.stallCheck = t :=
  State.stallCheck_of_dmg ((congrArg Params.model h.params).trans hdmg)

theorem idle : s.Spends (n + 1) t.idle where
  trace := by rw [State.idle_trace, List.length_cons, h.trace, Nat.add_assoc]
  params := t.idle_params.trans h.params
  time hdmg := by
    rw [State.idle, State.deviceTick_mcycles, h.stallCheck_eq hdmg]
    exact congrArg (· + 1) (h.time hdmg)

theorem read (a : Word) : s.Spends (n + 1) (t.memReadState a) where
  trace := by rw [State.memReadState_trace, List.length_cons, h.trace, Nat.add_assoc]
  params := (t.memReadState_params a).trans h.params
  time hdmg := by
    rw [State.memReadState, State.deviceTick_mcycles, h.stallCheck_eq hdmg]
    exact congrArg (· + 1) (h.time hdmg)

theorem write (a : Word) (v : Byte) : s.Spends (n + 1) (t.memWrite a v) where
  trace := by rw [State.memWrite_trace, List.length_cons, h.trace, Nat.add_assoc]
  params := (t.memWrite_params a v).trans h.params
  time hdmg := by
    rw [State.memWrite, State.deviceTick_mcycles, State.log, State.cpuWrite_mcycles, h.stallCheck_eq hdmg, h.time hdmg,
      Nat.add_assoc]

theorem push16 (v : Word) : s.Spends (n + 2) (t.push16 v) := (((h.cpu _).write _ _).cpu _).write _ _
theorem pop16 : s.Spends (n + 2) t.pop16.2 := (((h.read _).cpu _).read _).cpu _
theorem call (v : Word) : s.Spends (n + 3) (t.call v) := (h.idle.push16 _).cpu _
theorem ret : s.Spends (n + 3) t.ret := (h.pop16.cpu _).idle
theorem modifyMem (f : Byte → Byte) : s.Spends (n + 2) (t.modifyMem f) := (h.read _).write _ _

theorem onCond (cc : Cond) {f : State → State} {m : Nat} (hf : s.Spends m (f t)) :
    s.Spends (if condHolds t.cpu.f cc then m else n) (t.onCond cc f) := by
  unfold State.onCond; split
  · exact hf
  · exact h

theorem halt : s.Spends n t.halt := by
  unfold State.halt; split <;> exact h.cpu _

theorem ei : s.Spends n t.ei := by
  unfold State.ei; split
  · exact h.cpu _
  · exact h

end State.Spends

/-! ## What each shape spends -/

/-- The M-cycles of a row of the CB table after its fetches: none on a register, one for `BIT b,(HL)`, two for the others
at HL (R152). -/
def cbCycles (op2 : Byte) : Nat :=
  match (op2.extractLsb' 6 2).toNat, regOfField (op2.extractLsb' 0 3) with
  | _, some _ => 0
  | 1, none => 1
  | _, none => 2

/-- The M-cycles of a shape after its fetches, by the flags it begins with. -/
def Form.cycles (f : Flags) : Form → Nat
  | .loadReg .. | .storeReg .. | .storeImm _ | .loadBump _ | .storeBump _ | .spFromHl | .leaHl _ | .aluMem _ | .addHl _
  | .incPair _ | .decPair _ | .testMem _ | .jump _ | .jumpRel _ => 1
  | .storeSp _ | .pop _ | .incMem | .decMem | .addSp _ | .rotMem _ | .resMem _ | .setBitMem _ => 2
  | .push _ | .call _ | .rst _ | .ret | .reti => 3
  | .jumpIf cc _ | .jumpRelIf cc _ => if condHolds f cc then 1 else 0
  | .callIf cc _ => if condHolds f cc then 3 else 0
  | .retIf cc => if condHolds f cc then 4 else 1
  | .runCb op2 => cbCycles op2
  | _ => 0

theorem State.Spends.runCb (s : State) (op2 : Byte) : s.Spends (cbCycles op2) (s.runCb op2) := by
  have h := State.Spends.refl s
  unfold State.runCb cbCycles
  generalize (op2.extractLsb' 6 2).toNat = n
  generalize regOfField (op2.extractLsb' 0 3) = o
  match n, o with
  | 0, some r => exact (h.cpu _).cpu _
  | 0, none => exact (h.modifyMem _).cpu _
  | 1, some r => exact h.cpu _
  | 1, none => exact (h.read _).cpu _
  | 2, some r => exact h.cpu _
  | 2, none => exact h.modifyMem _
  | _ + 3, some r => exact h.cpu _
  | _ + 3, none => exact h.modifyMem _

theorem State.stopOperand_of_none {s : State} (hop : s.params.stopSwallowsOperand = false) : s.stopOperand = s := by
  rw [State.stopOperand, hop]; rfl

/-- `STOP` spends nothing when it has no operand and switches no speed (R322). -/
theorem State.stop_eq_self {s : State} (hop : s.params.stopSwallowsOperand = false)
    (hoff : s.params.model = .dmg ∨ s.key1Armed = false) : s.stop = s := by
  have harmed : ¬ (s.isCgb && s.key1Armed) = true := by
    rcases hoff with hdmg | hkey
    · rw [State.isCgb_of_dmg hdmg]; exact nofun
    · rw [hkey, Bool.and_false]; exact nofun
  rw [State.stop_eq, if_neg harmed, State.stopOperand_of_none hop]

/-- A shape that runs spends its M-cycles. -/
theorem Form.run_spends {s t : State} {f : Form} (e : f.run s = .next t) (hstop : f = .stop → s.stop = s) :
    s.Spends (f.cycles s.cpu.f) t := by
  have h := State.Spends.refl s
  have get {u : State} (eq : Host.Outcome.next u = f.run s) (hu : s.Spends (f.cycles s.cpu.f) u) :
      s.Spends (f.cycles s.cpu.f) t :=
    Host.Outcome.next.inj (eq.trans e) ▸ hu
  cases f with
  | illegal => exact nomatch e
  | nop => exact get rfl h
  | setReg | copyReg | setPair | alu | aluReg | incReg | decReg | daa | cpl | scf | ccf | rotA | rotReg | testReg | resReg
  | setBitReg | jumpHl | di => exact get rfl (h.cpu _)
  | loadReg | loadBump | aluMem | testMem => exact get rfl ((h.read _).cpu _)
  | storeReg | storeImm => exact get rfl (h.write _ _)
  | storeBump => exact get rfl ((h.write _ _).cpu _)
  | storeSp => exact get rfl ((h.write _ _).write _ _)
  | spFromHl | leaHl | addHl | incPair | decPair | jump | jumpRel => exact get rfl (h.idle.cpu _)
  | push => exact get rfl (h.idle.push16 _)
  | pop => exact get rfl (h.pop16.cpu _)
  | incMem | decMem | rotMem => exact get rfl (((h.read _).write _ _).cpu _)
  | resMem | setBitMem => exact get rfl (h.modifyMem _)
  | addSp => exact get rfl (h.idle.idle.cpu _)
  | runCb op2 => exact get rfl (.runCb s op2)
  | jumpIf cc | jumpRelIf cc => exact get rfl (h.onCond cc (h.idle.cpu _))
  | call | rst => exact get rfl (h.call _)
  | callIf cc => exact get rfl (h.onCond cc (h.call _))
  | ret => exact get rfl h.ret
  | retIf cc => exact get rfl (s.idle_cpu ▸ h.idle.onCond cc h.idle.ret)
  | reti => exact get rfl (h.ret.cpu _)
  | halt => exact get rfl h.halt
  | ei => exact get rfl h.ei
  | stop => exact get rfl ((hstop rfl).symm ▸ h)

/-! ## The published column -/

/-- The column's numbers of the CB table's rows are the two fetches and what the row spends. -/
theorem Instr.mcycles_prefixCB (f : Flags) (op2 : Byte) : (Instr.prefixCB op2).mcycles f = 2 + cbCycles op2 := by
  show (if op2.toNat % 8 ≠ 6 then 2 else if op2.toNat / 64 = 1 then 3 else 4) = _
  clear f
  revert op2
  decide

/-- The published column is the fetches and what the shape spends. -/
theorem Instr.mcycles_eq (f : Flags) (i : Instr) :
    i.mcycles f = (encode i).length + (Instr.form i).cycles f := by
  cases i with
  | prefixCB op2 => exact Instr.mcycles_prefixCB f op2
  | jrZe => exact (add_ite (f.z = true) 2 1 0).symm
  | jrCe => exact (add_ite (f.c = true) 2 1 0).symm
  | jpZnn => exact (add_ite (f.z = true) 3 1 0).symm
  | jpCnn => exact (add_ite (f.c = true) 3 1 0).symm
  | callZnn => exact (add_ite (f.z = true) 3 3 0).symm
  | callCnn => exact (add_ite (f.c = true) 3 3 0).symm
  | retZ => exact (add_ite (f.z = true) 1 4 1).symm
  | retC => exact (add_ite (f.c = true) 1 4 1).symm
  | jrNZe => exact (ite_eq_ite_not f.z 2 3).trans (add_ite ((!f.z) = true) 2 1 0).symm
  | jrNCe => exact (ite_eq_ite_not f.c 2 3).trans (add_ite ((!f.c) = true) 2 1 0).symm
  | jpNZnn => exact (ite_eq_ite_not f.z 3 4).trans (add_ite ((!f.z) = true) 3 1 0).symm
  | jpNCnn => exact (ite_eq_ite_not f.c 3 4).trans (add_ite ((!f.c) = true) 3 1 0).symm
  | callNZnn => exact (ite_eq_ite_not f.z 3 6).trans (add_ite ((!f.z) = true) 3 3 0).symm
  | callNCnn => exact (ite_eq_ite_not f.c 3 6).trans (add_ite ((!f.c) = true) 3 3 0).symm
  | retNZ => exact (ite_eq_ite_not f.z 2 5).trans (add_ite ((!f.z) = true) 1 4 1).symm
  | retNC => exact (ite_eq_ite_not f.c 2 5).trans (add_ite ((!f.c) = true) 1 4 1).symm
  | _ => rfl

theorem Instr.eq_stop_of_form {i : Instr} (h : Instr.form i = .stop) : i = .stop := by
  cases i with
  | stop => rfl
  | _ => exact nomatch h

/-- Taking an interrupt spends two idle M-cycles and the push of PC (R351). -/
theorem State.Spends.dispatchCycles (s : State) : s.Spends 4 s.dispatchCycles :=
  (State.Spends.refl s).idle.idle.push16 _

theorem State.enterHandler_trace (s : State) (i : Nat) : (s.enterHandler i).trace = s.trace := rfl

/-- Settles O29: a shape spends its M-cycles, the column counts them and the fetches; a switching `STOP` spends those of
the speed switch. -/
theorem publishedTimes : Obligations.PublishedTimes := by
  refine ⟨fun i s t e hstop => ?_, fun s t e hop hcgb hkey => ?_, fun s t e => ?_⟩
  · have h : s.Spends ((Instr.form i).cycles s.cpu.f) t := by
      rw [exec_form] at e
      refine Form.run_spends e fun hi => ?_
      obtain ⟨hop, hoff⟩ := hstop (Instr.eq_stop_of_form hi)
      exact State.stop_eq_self hop hoff
    rw [Instr.mcycles_eq]
    exact ⟨by rw [h.trace]; omega, fun hdmg => by rw [h.time hdmg]; omega⟩
  · have hon : (s.isCgb && s.key1Armed) = true := by rw [State.isCgb_iff.2 hcgb, hkey]; rfl
    rw [exec_stop, if_pos hon, State.stopOperand_of_none hop] at e
    obtain rfl := Host.Outcome.next.inj e
    rw [State.switchSpeed_trace, List.length_append, List.length_replicate, Config.speedSwitchMcycles]
    omega
  · obtain ⟨-, rfl⟩ := State.takeInterrupt_next e
    rw [State.enterHandler_trace, (State.Spends.dispatchCycles s).trace]

end Sys2Proof.Machine
end

section
/-! PROOFS. Reset in its two forms (70_reset_and_hazards.md R580 to R583), what a step keeps of a launch, and the invariant
at reset. -/

namespace Sys2Proof.Machine

/-! ## The power-on form -/

/-- IF reads as its flags under three set bits (R52). -/
theorem State.rawRead_if {s : State} {f : BitVec 5} (h : s.irq.flags = f) :
    s.rawRead 0xFF0F = (0b111 : BitVec 3) ++ f := by
  rw [State.rawRead_of (t := .io 0x0F) rfl, ← h]; exact s.irq.readIf_eq

/-- Settles O57: each part of the power-on state is the one that R581 names. -/
theorem powerOnReset : Obligations.PowerOnReset := by
  intro k s
  exact ⟨⟨rfl, rfl, rfl⟩, ⟨rfl, State.rawRead_if (f := 0) rfl⟩, rfl, rfl, ⟨rfl, rfl, rfl, rfl⟩, rfl, rfl,
    ⟨rfl, rfl, rfl, rfl, rfl, rfl, rfl, rfl, rfl, rfl, rfl, rfl, rfl, rfl, rfl⟩, ⟨rfl, rfl, rfl, rfl, rfl, rfl, rfl⟩,
    ⟨rfl, rfl, rfl, rfl, rfl⟩, ⟨rfl, rfl, rfl, rfl, rfl, rfl, rfl, rfl, rfl⟩, ⟨rfl, rfl, rfl, rfl, rfl, rfl, rfl⟩, rfl⟩

/-- The PPU at power-on is within its bounds: the LCD is off, at the start of line 0 (R581). -/
theorem Ppu.powerOn_ok : Ppu.powerOn.Ok where
  dot := by decide
  ly := by decide
  vblank := by decide
  drawing := nofun
  off _ := ⟨rfl, rfl, rfl⟩
  sprites := by decide
  bgFifo := by decide
  objFifo := by decide
  discard := by decide

theorem State.reset_bounded : State.reset.Bounded where
  vram := rfl
  oam := rfl
  wram := rfl
  hram := rfl
  bgCram := rfl
  objCram := rfl
  frameBuffer := rfl
  ppu := Ppu.powerOn_ok
  oamDma := ⟨by decide, nofun⟩
  remaining := by decide

/-- Settles O59: the memories are empty, the PPU is off, nothing runs and nothing waits. -/
theorem resetMeetsInvariant : Obligations.ResetMeetsInvariant :=
  .of_parts State.reset_canonical State.reset_bounded ⟨rfl, rfl⟩ fun _ => ⟨rfl, rfl, rfl, rfl, rfl, rfl⟩

/-! ## The post-boot form -/

/-- On `Dmg` the register pairs of R583. -/
theorem Cpu.postBoot_dmg (c : Cpu) :
    (c.postBoot .dmg).stkPair .af = 0x01B0 ∧ (c.postBoot .dmg).bc = 0x0013 ∧ (c.postBoot .dmg).de = 0x00D8 ∧
    (c.postBoot .dmg).hl = 0x014D := by
  simp only [Cpu.stkPair, Cpu.bc, Cpu.de, Cpu.hl, Cpu.postBoot]; decide

/-- On `Cgb` the register pairs of R583. -/
theorem Cpu.postBoot_cgb (c : Cpu) :
    (c.postBoot .cgb).stkPair .af = 0x1180 ∧ (c.postBoot .cgb).bc = 0x0000 ∧ (c.postBoot .cgb).de = 0xFF56 ∧
    (c.postBoot .cgb).hl = 0x000D := by
  simp only [Cpu.stkPair, Cpu.bc, Cpu.de, Cpu.hl, Cpu.postBoot]; decide

/-- What both models' registers share. -/
theorem Cpu.postBoot_control (m : Model) (c : Cpu) :
    (c.postBoot m).sp = 0xFFFE ∧ (c.postBoot m).pc = 0x0100 ∧ (c.postBoot m).ime = c.ime ∧
    (c.postBoot m).halted = c.halted := by
  cases m <;> exact ⟨rfl, rfl, rfl, rfl⟩

theorem State.postBoot_cpu (k : Launch) (x : PostBootArgs) :
    (State.postBoot k x).cpu = (State.powerOn k).cpu.postBoot k.params.model := rfl

/-- The post-boot form switches the LCD on (R583). -/
theorem Ppu.postBoot_lcdOn (x : PostBootArgs) (p : Ppu) : (p.postBoot x).lcdOn = true := by
  show BitVec.getLsbD (0x91 : Byte) 7 = true
  decide

/-- A place of the schedule is one that the invariant allows: the LCD is on (R480, R583). -/
theorem PostBootArgs.OnSchedule.ok {x : PostBootArgs} (h : x.OnSchedule) : (Ppu.powerOn.postBoot x).Ok where
  dot := h.dot
  ly := h.ly
  vblank := h.vblank
  drawing _ := h.lx
  off hoff := nomatch (Ppu.postBoot_lcdOn x _).symm.trans hoff
  sprites := Nat.zero_le _
  bgFifo := h.bgFifo
  objFifo := h.objFifo
  discard := h.discard

/-! ## What was loaded stays -/

/-- What a launch loads for good: the arguments and the two ROMs (R600). -/
def State.loaded (s : State) : Params × Cart × Memory := (s.params, s.cart, s.bootRom)

theorem State.loaded_of_outer {s t : State} (h : t.outer = s.outer) : t.loaded = s.loaded :=
  congrArg (fun o : Untouched => (o.params, o.cart, o.bootRom)) h

/-- No write of the CPU reaches what was loaded (R86, R94). -/
theorem State.cpuWrite_loaded (s : State) (a : Word) (v : Byte) : (s.cpuWrite a v).loaded = s.loaded := by
  refine State.cpuWrite_keeps State.loaded (fun u w c => ?_) s a v
  cases c with
  | io r => rw [State.writeTarget, State.ioWrite_eq]; rfl
  | _ => rfl

/-- No step loses what was loaded. -/
theorem State.loaded_stepStable (s : State) : StepStable fun t => t.loaded = s.loaded where
  cpu _ _ h := h
  idle t h := (State.loaded_of_outer t.idle_outer).trans h
  read t a h := (State.loaded_of_outer (t.memReadState_outer a)).trans h
  write t a v h := calc
    (t.memWrite a v).loaded = (t.stallCheck.cpuWrite a v).loaded := State.loaded_of_outer (t.memWrite_outer a v)
    _ = t.stallCheck.loaded := t.stallCheck.cpuWrite_loaded a v
    _ = t.loaded := State.loaded_of_outer t.stallCheck_outer
    _ = s.loaded := h
  speed _ _ h := h
  begin t h := by unfold State.beginStep; split <;> exact h
  ack _ _ h := h

/-! ## `reset()` -/

theorem State.hostReset_params (s : State) (k : Launch) (x : PostBootArgs) : (s.hostReset k x).params = s.params :=
  State.load_params (s.relaunch k) x

/-- Either form has the cartridge, the boot ROM and the buttons of the launch. -/
theorem State.load_units (k : Launch) (x : PostBootArgs) :
    (State.load k x).cart = k.cart ∧ (State.load k x).bootRom = k.bootRom ∧ (State.load k x).buttons = k.buttons := by
  unfold State.load; split <;> exact ⟨rfl, rfl, rfl⟩

theorem State.hostReset_of_powerOn {s : State} (h : s.params.resetForm = .powerOn) (k : Launch) (x : PostBootArgs) :
    s.hostReset k x = { State.powerOn (s.relaunch k) with serialOut := s.serialOut } := by
  rw [State.hostReset, State.load_of_powerOn h]

theorem State.hostReset_of_postBoot {s : State} (h : s.params.resetForm = .postBoot) (k : Launch) (x : PostBootArgs) :
    s.hostReset k x = { State.postBoot (s.relaunch k) x with serialOut := s.serialOut } := by
  rw [State.hostReset, State.load_of_postBoot h]

/-- Settles O58: the post-boot state part by part, `reset()` as the loaded form with the machine's own launch, and what was
loaded as something that every step keeps. -/
theorem postBootReset : Obligations.PostBootReset := by
  refine ⟨fun k x => ?_, fun s k x => ?_, fun s t => State.afterStep_of_next, fun s => ?_⟩
  · obtain ⟨hsp, hpc, hime, hhalted⟩ := Cpu.postBoot_control k.params.model (State.powerOn k).cpu
    refine ⟨fun hdmg => ?_, fun hcgb => ?_, ⟨hsp, hpc, State.rawRead_if (f := 1) rfl, rfl, hime, hhalted, rfl⟩,
      ⟨rfl, rfl, rfl, rfl, rfl, rfl, rfl, rfl, rfl, rfl⟩, ⟨rfl, rfl, rfl, PostBootArgs.OnSchedule.ok⟩, rfl, rfl, rfl, rfl,
      ⟨rfl, rfl, rfl, rfl, rfl, rfl⟩⟩
    · rw [State.postBoot_cpu, State.postBoot, hdmg]
      obtain ⟨haf, hbc, hde, hhl⟩ := Cpu.postBoot_dmg (State.powerOn k).cpu
      exact ⟨haf, hbc, hde, hhl, rfl⟩
    · rw [State.postBoot_cpu, State.postBoot, hcgb]
      obtain ⟨haf, hbc, hde, hhl⟩ := Cpu.postBoot_cgb (State.powerOn k).cpu
      exact ⟨haf, hbc, hde, hhl, rfl⟩
  · obtain ⟨hcart, hboot, hbuttons⟩ := State.load_units (s.relaunch k) x
    exact ⟨fun h => State.hostReset_of_powerOn h k x, fun h => State.hostReset_of_postBoot h k x,
      s.hostReset_params k x, hcart, hboot, hbuttons, rfl⟩
  · have h : s.afterStep.loaded = s.loaded := (State.loaded_stepStable s).afterStep rfl
    simpa only [State.loaded, Prod.mk.injEq] using h

end Sys2Proof.Machine
end
